-- ==== Sys2Proof/Word.lean ====
section
/-! DEFINITION. The word types of the block (R7, R12): a byte, a 16-bit register, a one-bit register. -/

namespace Sys2Proof

/-- A byte: 8 bits, bit 7 the most significant (R7). -/
abbrev Byte := BitVec 8

/-- The contents of a 16-bit register (R12); also what a host action carries to or from a register. -/
abbrev Half := BitVec 16

end Sys2Proof
end

