-- ==== Sys2Proof/Syntax.lean ====
section
/-! DEFINITION. The nine operations of the block (R2, R61), one constructor per row of the opcode table. -/

namespace Sys2Proof

/-- An operation. All operands are implicit (R60), so no constructor has an argument. -/
inductive Instr where
  /-- `RAST.SIMPLE` (R103). -/
  | rastSimple
  /-- `RAST.BAND` (R107). -/
  | rastBand
  /-- `PRN.RESET` (R171). -/
  | prnReset
  /-- `CUT.FULL` (R172). -/
  | cutFull
  /-- `CUT.PARTIAL` (R173). -/
  | cutPartial
  /-- `SET.AREA` (R174). -/
  | setArea
  /-- `BARCODE` (R122). -/
  | barcode
  /-- `QRCODE` (R138). -/
  | qrcode
  /-- `FRAME.BANDS` (R155). -/
  | frameBands
  deriving DecidableEq, Repr

/-- All operations, in the opcode table's order. -/
def Instr.all : List Instr :=
  [.rastSimple, .rastBand, .prnReset, .cutFull, .cutPartial, .setArea, .barcode, .qrcode, .frameBands]

end Sys2Proof
end

