-- ==== Sys2Proof/Decode.lean ====
section
/-! DEFINITION. The request decoder and encoder (R60, R61, R71): one byte, the op-select code. -/

namespace Sys2Proof

/-- Why bytes are no request. -/
inductive DecodeReject where
  /-- There is no byte to read. -/
  | noByte
  /-- The byte is none of the nine op-select codes of R61 (R71). -/
  | illegalOpSelect (code : Byte)
  deriving DecidableEq, Repr

/-- What the decoder answers: an operation and the bytes after it, or a rejection by name. -/
inductive Decoded where
  | instr (i : Instr) (rest : List Byte)
  | rejected (why : DecodeReject)
  deriving DecidableEq, Repr

/-- One row of the op-select table: a request byte `b` with `b &&& mask = pattern` is `instr`. -/
structure OpRow where
  mask : Byte
  pattern : Byte
  instr : Instr
  deriving DecidableEq, Repr

/-- The table of R61, in its order. Every mask is 0xFF: format OPSEL has no other field (R60). -/
def opSelTable : List OpRow :=
  [ { mask := 0xFF, pattern := 0x01, instr := .rastSimple }
  , { mask := 0xFF, pattern := 0x02, instr := .rastBand }
  , { mask := 0xFF, pattern := 0x10, instr := .prnReset }
  , { mask := 0xFF, pattern := 0x11, instr := .cutFull }
  , { mask := 0xFF, pattern := 0x12, instr := .cutPartial }
  , { mask := 0xFF, pattern := 0x13, instr := .setArea }
  , { mask := 0xFF, pattern := 0x20, instr := .barcode }
  , { mask := 0xFF, pattern := 0x21, instr := .qrcode }
  , { mask := 0xFF, pattern := 0x22, instr := .frameBands } ]

/-- Whether a request byte is of a row. -/
def OpRow.matchesByte (row : OpRow) (b : Byte) : Bool := (b &&& row.mask) == row.pattern

/-- The decoder: reads one request byte and hands back the bytes after it, which are further requests
(R60: all requests have the same length; log 14). -/
def decode : List Byte → Decoded
  | [] => .rejected .noByte
  | b :: rest =>
    match opSelTable.find? (fun row => row.matchesByte b) with
    | some row => .instr row.instr rest
    | none => .rejected (.illegalOpSelect b)

/-- The op-select code of an operation (R61). -/
def opSelCode : Instr → Byte
  | .rastSimple => 0x01
  | .rastBand => 0x02
  | .prnReset => 0x10
  | .cutFull => 0x11
  | .cutPartial => 0x12
  | .setArea => 0x13
  | .barcode => 0x20
  | .qrcode => 0x21
  | .frameBands => 0x22

/-- The encoder: the request bytes of an operation. -/
def encode (i : Instr) : List Byte := [opSelCode i]

/-- The encoding of a sequence of operations: the values the host writes to CMD, in order
(95_test_vectors.md section 3). -/
def encodeAll (is : List Instr) : List Byte := is.flatMap encode

/-- Every request of a byte sequence, in order, or the first rejection. -/
def decodeAll : List Byte → Except DecodeReject (List Instr)
  | [] => .ok []
  | b :: bs =>
    match decode [b] with
    | .rejected why => .error why
    | .instr i _ =>
      match decodeAll bs with
      | .error why => .error why
      | .ok is => .ok (i :: is)

/-- The bytes of a word as the opcode table numbers its bits: bit 0 is the least significant bit of the
first byte. Bits at or above `nbits` are zero, and there is always a first byte. -/
def tableBytes (nbits w : Nat) : List Byte :=
  (List.range (max 1 ((nbits + 7) / 8))).map fun k => BitVec.ofNat 8 (w % 2 ^ nbits / 256 ^ k)

/-- The request byte of a table word: its first byte. A request has no second byte, so the bit the
reader's table gives SET.AREA's `emit_length` at position 10 is no bit of it (log 14). -/
def tableRequest (nbits w : Nat) : Byte := (tableBytes nbits w).headD 0

/-- What the decoder reads from an instruction whose bits are `w`, numbered as the opcode table does. -/
def decodeTableWord (nbits w : Nat) : Option Instr :=
  match decode (tableBytes nbits w) with
  | .instr i _ => some i
  | .rejected _ => none

end Sys2Proof
end

