-- ==== Sys2Proof/Machine/Bits.lean ====
section
/-! DEFINITION. The arithmetic of R7 and the packing of eight bits into a byte (R43), over naturals. -/

namespace Sys2Proof.Machine

/-- `lo8(v) = v mod 256` as a byte (R7). -/
def lo8 (v : Nat) : Byte := BitVec.ofNat 8 (v % 256)

/-- `hi8(v) = v div 256` as a byte (R7); `v < 65536` wherever a rule uses it (R80). -/
def hi8 (v : Nat) : Byte := BitVec.ofNat 8 (v / 256)

/-- The little-endian byte pair of a value (R7, R42): low byte first. -/
def pair16 (v : Nat) : List Byte := [lo8 v, hi8 v]

/-- `floorTo(n, v)`: the largest multiple of `n` at or below `v` (R7). -/
def floorTo (n v : Nat) : Nat := n * (v / n)

/-- `clamp(lo, hi, v)` (R7). -/
def clamp (lo hi v : Nat) : Nat := if v < lo then lo else if hi < v then hi else v

/-- A byte packed most significant bit first (R43): pixel `k` of the run weighs `2 ^ (7 - k)`. -/
def packByte (px : Nat → Bool) : Byte :=
  BitVec.ofNat 8 (((List.range 8).map fun k => (px k).toNat * 2 ^ (7 - k)).sum)

/-- The cell at row `r`, column `c` of a grid held as rows, top first (R41); a cell that is not there
reads as white, which happens in no state a run reaches (log 12). -/
def cellAt (g : List (List Bool)) (r c : Nat) : Bool := (g.getD r []).getD c false

/-- Whether a list of rows is a grid of height `h` and width `w` (R15). -/
def gridShape (w h : Nat) (g : List (List Bool)) : Bool :=
  g.length == h && g.all fun row => row.length == w

end Sys2Proof.Machine
end

