-- ==== Sys2Proof/Config.lean ====
section
/-! DEFINITION. The configuration record of R5: the parameters the spec leaves OPEN, with the constraints
of decision D22, and the configuration function of the front end (R94, D29). -/

namespace Sys2Proof

/-- The OPEN parameters of R5. A value of this type is one configuration of the block; the fixed
parameters of R5 are in Machine/Params.lean. -/
structure Config where
  /-- `GRID_CAP`: how many cells the grid memory holds; `none` is the unbounded capacity R5 allows. -/
  gridCap : Option Nat
  /-- `QR_CN`, the functionGroup byte (R132). -/
  qrCn : Byte
  /-- `QR_FN_MODEL` (R133). -/
  qrFnModel : Byte
  /-- `QR_FN_SIZE` (R134). -/
  qrFnSize : Byte
  /-- `QR_FN_EC` (R135). -/
  qrFnEc : Byte
  /-- `QR_FN_STORE` (R136). -/
  qrFnStore : Byte
  /-- `QR_FN_PRINT` (R137). -/
  qrFnPrint : Byte
  /-- `QR_MODEL_BYTE[0]` (R133). -/
  qrModelByte0 : Byte
  /-- `QR_MODEL_BYTE[1]` (R133). -/
  qrModelByte1 : Byte
  /-- `QR_MODEL_SUB` (R133). -/
  qrModelSub : Byte
  /-- `QR_EC_LO` (R135). -/
  qrEcLo : Byte
  /-- `QR_EC_HI` (R135). -/
  qrEcHi : Byte
  /-- `QR_STORE_M`, the byte between functionCode and payload in step 4 (R136). -/
  qrStoreM : Byte
  /-- `QR_PRINT_TAIL` (R137). -/
  qrPrintTail : List Byte
  /-- `BIMG_PREFIX` (R153). -/
  bimgPrefix : List Byte
  /-- `BIMG_MODE` (R153). -/
  bimgMode : Byte
  deriving DecidableEq, Repr, Inhabited

/-- The constraints of decision D22 (also U7): the two model bytes differ, the four levels are
consecutive bytes (DEDUCED, log 4), and step 5's length fits one byte. -/
def Config.wf (c : Config) : Bool :=
  c.qrModelByte0 != c.qrModelByte1 && c.qrEcHi.toNat == c.qrEcLo.toNat + 3
    && decide (c.qrPrintTail.length ≤ 253)

/-- The reference set `REF` of R5 and of the test vectors: general knowledge of the spec's writer, not
the source's. No meaning reads it; the tests do. -/
def Config.ref : Config where
  gridCap := none
  qrCn := 0x31
  qrFnModel := 0x41
  qrFnSize := 0x43
  qrFnEc := 0x45
  qrFnStore := 0x50
  qrFnPrint := 0x51
  qrModelByte0 := 0x31
  qrModelByte1 := 0x32
  qrModelSub := 0x00
  qrEcLo := 0x30
  qrEcHi := 0x33
  qrStoreM := 0x30
  qrPrintTail := [0x30]
  bimgPrefix := [0x1B, 0x2A]
  bimgMode := 0x21

/-- A configuration about which nothing is known (R5: OPEN parameters). -/
opaque Config.free : Config

/-- The configuration the block has at reset: a free one within the constraints of D22, so that what
is proved of it holds of every configuration the spec allows (DESIGN CHOICE, log 3). -/
def Config.installed : Config := if Config.free.wf then Config.free else Config.ref

/-- The front end's configuration (R94): how `luminance < 128` comes out for each colour, which the spec
leaves to the floating format (D29). It stands outside the block, so no field of State holds it: the
front end's functions take it as an argument. -/
structure FrontEndConfig where
  /-- `LumBelow128 : (R, G, B) -> Bool` (R94). -/
  lumBelow128 : Byte → Byte → Byte → Bool

end Sys2Proof
end

