-- ==== Sys2Proof/Machine/Action.lean ====
section
/-! DEFINITION. The actions of the host and the sink (R27), as plain data, and what a host read returns. -/

namespace Sys2Proof.Machine

/-- One action from outside the block. A register is named by its number (R12). -/
inductive Action where
  /-- `LoadGrid(w, h, cells)`: rows top first, cells leftmost first, `true` is black (R27, R74). -/
  | loadGrid (w h : Half) (cells : List (List Bool))
  /-- `LoadPayload(bytes)` (R27). -/
  | loadPayload (bytes : List Byte)
  /-- `WriteReg(name, v)` (R27); of register 0x00, `CMD`, it requests an operation (R13). -/
  | writeReg (number : Byte) (v : Half)
  /-- `ReadReg(name)` (R27). -/
  | readReg (number : Byte)
  /-- `ReadRB(i)` (R27). -/
  | readRB (i : Nat)
  /-- Hardware reset (R27, R200). -/
  | hardReset
  /-- The sink consumes bytes from the front of `OUT` (R27): `n` of them, or all if there are fewer (log 8). -/
  | sinkTake (n : Nat)
  deriving DecidableEq, Repr

/-- What a host read returned (R27, R213). -/
inductive HostRead where
  /-- The whole register (R44), with zeros above its width. -/
  | reg (number : Byte) (v : Half)
  /-- A byte of the raster block. -/
  | rb (i : Nat) (b : Byte)
  deriving DecidableEq, Repr

end Sys2Proof.Machine
end

