-- ==== Sys2Proof/Machine/State.lean ====
section
/-! DEFINITION. The state of the block (R11: the registers of R12 and the memories GRID, PAY, RB, OUT),
with the model's own fields for what stands outside it, the reset state, and why a step can stop. -/

namespace Sys2Proof.Machine

/-- The state. `CMD` has no field: it stores nothing and reads as 0 (R13). -/
structure State where
  /-- `ERR`, the result of the most recent operation (R14). -/
  err : Byte
  /-- `W`, the loaded grid's width (R15). -/
  w : Half
  /-- `H`, the loaded grid's height (R15). -/
  h : Half
  /-- `PLEN`, the number of payload bytes (R16). -/
  plen : Half
  /-- `SYM`, the symbology code (R17). -/
  sym : Byte
  /-- `QMODEL` (R18). -/
  qmodel : BitVec 1
  /-- `QSIZE`, before clamping (R18). -/
  qsize : Byte
  /-- `QEC`, before clamping (R18). -/
  qec : Byte
  /-- `SXL` (R19). -/
  sxl : Byte
  /-- `SXH` (R19). -/
  sxh : Byte
  /-- `SYL`, running start Y, low byte (R19). -/
  syl : Byte
  /-- `SYH`, running start Y, the 16-bit high accumulator (R19). -/
  syh : Half
  /-- `EXL` (R19). -/
  exl : Byte
  /-- `EXH` (R19). -/
  exh : Byte
  /-- `EYL` (R19). -/
  eyl : Byte
  /-- `EYH` (R19). -/
  eyh : Byte
  /-- `INC`, the Y increment between bands (R20). -/
  inc : Byte
  /-- `RB_W`, the raster block's pixel width (R21). -/
  rbW : Half
  /-- `RB_H`, the raster block's pixel height (R21). -/
  rbH : Half
  /-- `HXL` (R22). -/
  hxl : Byte
  /-- `HXH` (R22). -/
  hxh : Byte
  /-- `HYL` (R22). -/
  hyl : Byte
  /-- `HYH` (R22). -/
  hyh : Byte
  /-- `GRID` (R15): rows top first, cells leftmost first, `true` is black. -/
  grid : List (List Bool)
  /-- `PAY` (R16). -/
  pay : List Byte
  /-- `RB` (R21). -/
  rb : List Byte
  /-- `OUT` (R23): the bytes emitted and not yet consumed by the sink (log 8). -/
  out : List Byte
  /-- The model's own: the configuration record of R5, which nothing writes (log 3). -/
  cfg : Config
  /-- The model's own: the host's and the sink's actions still to come, next first (log 1). -/
  script : List Action
  /-- The model's own: what the host's reads returned, oldest first (log 7). -/
  reads : List HostRead
  /-- The model's own: the bytes the sink has consumed, oldest first (log 8). -/
  sunk : List Byte
  deriving DecidableEq, Repr

/-- Why a step faults: never. Errors are results that leave a next state, the block is never stuck and
never hangs (R191 (a), (b), (d)), and no memory access can fault (R84), so no constructor stands here
(log 11). -/
inductive Fault where
  deriving DecidableEq, Repr

/-- Why a step has no meaning: the host action is one the interface refuses (R27, R191 (c)) or cannot
express. No operation of the block raises any of them. Each is safe: the model stops where the host is
assumed not to go. -/
inductive Refusal where
  /-- Raised by an arm of `exec` whose instruction has no meaning yet; no arm is left so. Safe. -/
  | notModelled (mnemonic : String)
  /-- Raised by `LoadGrid` when `w * h > GRID_CAP` (R27). Safe. -/
  | gridTooLarge
  /-- Raised by `LoadGrid` when the cells are not `h` rows of `w`, which R27 cannot express (log 10). Safe. -/
  | malformedGrid
  /-- Raised by `LoadPayload` when there are more than `PAY_CAP` bytes (R27). Safe. -/
  | payloadTooLarge
  /-- Raised by `WriteReg` and `ReadReg` of a number above 0x17 (R12, R191 (c)). Safe. -/
  | noSuchRegister
  /-- Raised by `WriteReg` of a register not marked W or RW (R27). Safe. -/
  | notHostWritable
  /-- Raised by `ReadReg` of a register not marked R or RW (R27). Safe. -/
  | notHostReadable
  /-- Raised by `WriteReg` of a value wider than the register, which R12 cannot express (log 10). Safe. -/
  | valueTooWide
  /-- Raised by `ReadRB` at an index `>= len(RB)` (R27). Safe. -/
  | rbIndexOutOfRange
  deriving DecidableEq, Repr

/-- The machine right after reset (R28, R200): every register 0, every memory empty, nothing pending. -/
def State.reset : State where
  err := 0
  w := 0
  h := 0
  plen := 0
  sym := 0
  qmodel := 0
  qsize := 0
  qec := 0
  sxl := 0
  sxh := 0
  syl := 0
  syh := 0
  exl := 0
  exh := 0
  eyl := 0
  eyh := 0
  inc := 0
  rbW := 0
  rbH := 0
  hxl := 0
  hxh := 0
  hyl := 0
  hyh := 0
  grid := []
  pay := []
  rb := []
  out := []
  cfg := Config.installed
  script := []
  reads := []
  sunk := []

end Sys2Proof.Machine
end

