-- ==== Sys2Proof/Machine/Ops.lean ====
section
/-! DEFINITION. The named operations over the memories and the result register: emit, success, raising an
error, replacing the raster block, the loads of the host, reset, and the sink's consumption. -/

namespace Sys2Proof.Machine

/-- The error kinds of R181. -/
inductive ErrorKind where
  /-- Code 1: QRCODE with PLEN above 7089 (R182). -/
  | payloadTooLong
  /-- Code 2: reserved; nothing in the block raises it (R183). -/
  | transportFailure
  /-- Code 3: BARCODE, explicit length, PLEN above 255 (R184). -/
  | lengthUnrepresentable
  /-- Code 4: a CMD write that is no op-select code (R185). -/
  | illegalOperation
  deriving DecidableEq, Repr

/-- The code of an error kind (R181). -/
def errorCode : ErrorKind → Byte
  | .payloadTooLong => 1
  | .transportFailure => 2
  | .lengthUnrepresentable => 3
  | .illegalOperation => 4

/-- Every code the block can leave in ERR: success, and the kinds it raises (R181). -/
def errCodes : List Byte := [0, 1, 3, 4]

namespace State

/-- `emit(seq)`: append to the end of `OUT` (R8, R23). -/
def emit (bytes : List Byte) (s : State) : State := { s with out := s.out ++ bytes }

/-- The end of a successful operation: `ERR <- 0` (R14, R180). -/
def succeed (s : State) : State := { s with err := 0 }

/-- `raise <Error>`: the complete effect of an error is `ERR <- code` (R189). Nothing is saved and
control goes nowhere; there is no return (R190). -/
def raise (e : ErrorKind) (s : State) : State := { s with err := errorCode e }

/-- Replace the raster block as a whole, with the pixel dimensions it encodes (R21). -/
def setBlock (bytes : List Byte) (width height : Nat) (s : State) : State :=
  { s with rb := bytes, rbW := BitVec.ofNat 16 width, rbH := BitVec.ofNat 16 height }

/-- The simple layout's header pairs: width in bytes, height in pixels (R102). -/
def setHeader (byteWidth height : Nat) (s : State) : State :=
  { s with hxl := lo8 byteWidth, hxh := hi8 byteWidth, hyl := lo8 height, hyh := hi8 height }

/-- Write the running start Y pair (R154). -/
def setStartY (low : Byte) (high : Half) (s : State) : State := { s with syl := low, syh := high }

/-- The effect of `LoadGrid` (R27): dimensions and cells together, the previous grid gone. -/
def loadGrid (width height : Half) (cells : List (List Bool)) (s : State) : State :=
  { s with w := width, h := height, grid := cells }

/-- The effect of `LoadPayload` (R27). -/
def loadPayload (bytes : List Byte) (s : State) : State :=
  { s with plen := BitVec.ofNat 16 bytes.length, pay := bytes }

/-- Record what a host read returned (log 7); the block's state does not change (R46). -/
def logRead (v : HostRead) (s : State) : State := { s with reads := s.reads ++ [v] }

/-- The sink consumes up to `n` bytes from the front of `OUT` (R23, R27; log 8). -/
def sinkTake (n : Nat) (s : State) : State :=
  { s with out := s.out.drop n, sunk := s.sunk ++ s.out.take n }

/-- The next actions are `rest` (log 1). -/
def setScript (rest : List Action) (s : State) : State := { s with script := rest }

/-- Hardware reset (R200): the block's registers and memories; what stands outside the block (the
configuration, the host's actions and reads, the sink's bytes) is not the block's to reset (log 9). -/
def hardReset (s : State) : State :=
  { State.reset with cfg := s.cfg, script := s.script, reads := s.reads, sunk := s.sunk }

/-- All bytes emitted, whether or not the sink has consumed them (R23, R213). -/
def emitted (s : State) : List Byte := s.sunk ++ s.out

end State

/-- The canonical form of the memories (R15, R16, R21): GRID is H rows of W cells, PAY has PLEN bytes,
RB has (RB_W * RB_H) div 8 bytes. OUT is unbounded and has no shape. -/
def Memory.wf (s : State) : Bool :=
  gridShape s.w.toNat s.h.toNat s.grid
    && s.pay.length == s.plen.toNat
    && s.rb.length == s.rbW.toNat * s.rbH.toNat / 8

end Sys2Proof.Machine
end

