-- ==== Sys2Proof/Machine/Params.lean ====
section
/-! DEFINITION. The fixed parameters of R5. -/

namespace Sys2Proof.Machine

/-- `PAY_CAP`: the payload memory's capacity in bytes (R5, D6). -/
def payCap : Nat := 65535

/-- `QR_MAX_PAYLOAD`: the largest accepted QR payload (R5, R131). -/
def qrMaxPayload : Nat := 7089

/-- `BARCODE_THRESHOLD`: the code at or above which explicit-length framing is used (R5, R121). -/
def barcodeThreshold : Nat := 69

/-- The largest payload length the one-byte barcode prefix can state (R123). -/
def barcodeMaxExplicit : Nat := 255

/-- `BAND_ROWS`: rows per band (R5, R104). -/
def bandRows : Nat := 24

/-- Pixels per packed byte (R45). -/
def pixelsPerByte : Nat := 8

/-- The module-size bounds of QRCODE's step 2 (R134). -/
def qrSizeLo : Nat := 1

/-- The module-size bounds of QRCODE's step 2 (R134). -/
def qrSizeHi : Nat := 16

/-- The group-separator control byte (R6). -/
def gs : Byte := 0x1D

/-- The escape control byte (R6). -/
def esc : Byte := 0x1B

end Sys2Proof.Machine
end

