-- ==== Sys2Proof/Machine/Operands.lean ====
section
/-! DEFINITION. The implicit operands of the operations (R62, R66): what each reads from the registers,
the memories and the configuration, as numbers and bytes. -/

namespace Sys2Proof.Machine

/-- The effective width of both layouts, `8 * (W div 8)` (R100, R104). -/
def effW (s : State) : Nat := floorTo pixelsPerByte s.w.toNat

/-- The simple layout's effective height, `8 * (H div 8)` (R100). -/
def effHSimple (s : State) : Nat := floorTo pixelsPerByte s.h.toNat

/-- The band layout's effective height, `24 * (H div 24)` (R104). -/
def effHBand (s : State) : Nat := floorTo bandRows s.h.toNat

/-- Bytes per row of the simple layout (R100). -/
def byteW (s : State) : Nat := effW s / 8

/-- Bands of the loaded grid in the band layout (R104). -/
def nBands (s : State) : Nat := effHBand s / bandRows

/-- `GRID[r][c]` (R8, R41). -/
def State.cell (s : State) (r c : Nat) : Bool := cellAt s.grid r c

/-- `PAY[0 .. PLEN-1]` (R8). -/
def payBytes (s : State) : List Byte := s.pay.take s.plen.toNat

/-- The positioning bytes `Pos` (R152), also SET.AREA's (R174): four little-endian pairs after `1B 57`.
Of the 16-bit SYH only the low byte is emitted (R19). -/
def posBytes (s : State) : List Byte :=
  [esc, 0x57, s.sxl, s.sxh, s.syl, lo8 s.syh.toNat, s.exl, s.exh, s.eyl, s.eyh]

/-- `QR_MODEL_BYTE[QMODEL]` (R133). -/
def qrModelByte (s : State) : Byte :=
  if s.qmodel = 0 then s.cfg.qrModelByte0 else s.cfg.qrModelByte1

/-- The clamped module size (R134); the register is not written back (R18). -/
def qrSize (s : State) : Byte := BitVec.ofNat 8 (clamp qrSizeLo qrSizeHi s.qsize.toNat)

/-- The clamped error-correction level (R135); the register is not written back (R18). -/
def qrLevel (s : State) : Byte :=
  BitVec.ofNat 8 (clamp s.cfg.qrEcLo.toNat s.cfg.qrEcHi.toNat s.qec.toNat)

/-- The number of bands of the raster block, `RB_H div 24` (R150). -/
def blockBands (s : State) : Nat := s.rbH.toNat / bandRows

/-- The bytes of band `b` of the raster block: a slice of `3 * RB_W` bytes (R150). -/
def bandSlice (s : State) (b : Nat) : List Byte :=
  (s.rb.drop (b * (3 * s.rbW.toNat))).take (3 * s.rbW.toNat)

/-- The bit-image header (R153); the same for every band. -/
def bitImageHeader (s : State) : List Byte :=
  s.cfg.bimgPrefix ++ [s.cfg.bimgMode] ++ pair16 s.rbW.toNat

end Sys2Proof.Machine
end

