-- ==== Sys2Proof/Machine/Flags.lean ====
section
/-! DEFINITION. The data-dependent choices of the operations (R25, R83): computed and consumed inside one
operation, they leave no flag behind. -/

namespace Sys2Proof.Machine

/-- BARCODE takes the NUL-terminated form: `SYM < 69`, unsigned (R121). -/
def nulFramed (s : State) : Bool := decide (s.sym.toNat < barcodeThreshold)

/-- The one-byte length prefix cannot state the payload's length: `PLEN > 255` (R123). -/
def lengthUnrepresentable (s : State) : Bool := decide (barcodeMaxExplicit < s.plen.toNat)

/-- The QR payload is too long: `PLEN > 7089` (R131). -/
def payloadTooLong (s : State) : Bool := decide (qrMaxPayload < s.plen.toNat)

/-- The sum of the Y advance, `SYL + INC`, computed without wrap-around (R154). -/
def yAdvanceSum (s : State) : Nat := s.syl.toNat + s.inc.toNat

/-- The Y advance overflows the low byte: the sum is above 255, strictly (R154). -/
def yOverflow (s : State) : Bool := decide (255 < yAdvanceSum s)

end Sys2Proof.Machine
end

