-- ==== Sys2Proof/Machine/Fixed.lean ====
section
/-! DEFINITION. The fixed commands: PRN.RESET, CUT.FULL, CUT.PARTIAL, SET.AREA (R170 to R174). -/

namespace Sys2Proof.Machine

/-- A framer operation that only emits and succeeds. -/
def emitAndSucceed (bytes : List Byte) (s : State) : Host.Outcome State Fault Refusal :=
  .next ((s.emit bytes).succeed)

/-- `PRN.RESET` (R171): the printer's reset command; it does not reset the block (R201). -/
def execPrnReset (s : State) : Host.Outcome State Fault Refusal := emitAndSucceed [esc, 0x40] s

/-- `CUT.FULL` (R172). -/
def execCutFull (s : State) : Host.Outcome State Fault Refusal := emitAndSucceed [gs, 0x56, 0x41, 0x00] s

/-- `CUT.PARTIAL` (R173). -/
def execCutPartial (s : State) : Host.Outcome State Fault Refusal := emitAndSucceed [gs, 0x56, 0x01] s

/-- `SET.AREA` (R174): the positioning bytes once, with no header and no data. -/
def execSetArea (s : State) : Host.Outcome State Fault Refusal := emitAndSucceed (posBytes s) s

end Sys2Proof.Machine
end

