-- ==== Sys2Proof/Machine/BandFrame.lean ====
section
/-! DEFINITION. The raster-band frames and the Y advance: FRAME.BANDS (R150 to R155). -/

namespace Sys2Proof.Machine

/-- `AdvanceY` (R154): on overflow the whole pre-overflow sum is added to the accumulator, not a carry
of 1; the low byte is the sum modulo 256. -/
def advanceY (s : State) : State :=
  s.setStartY (BitVec.ofNat 8 (yAdvanceSum s % 256))
    (if yOverflow s then BitVec.ofNat 16 ((s.syh.toNat + yAdvanceSum s) % 65536) else s.syh)

/-- The frame of band `b`: positioning command, bit-image header, band data (R152, R153). -/
def bandFrame (s : State) (b : Nat) : List Byte := posBytes s ++ bitImageHeader s ++ bandSlice s b

/-- The first `n` bands framed, the Y advance between them (R155). -/
def frameBands : Nat → State → State
  | 0, s => s
  | n + 1, s =>
    let before := frameBands n s
    let here := if n = 0 then before else advanceY before
    here.emit (bandFrame here n)

/-- `FRAME.BANDS` (R155): total on every state, whichever layout made the block (R150). -/
def execFrameBands (s : State) : Host.Outcome State Fault Refusal :=
  .next ((frameBands (blockBands s) s).succeed)

end Sys2Proof.Machine
end

