-- ==== Sys2Proof/Machine/Barcode.lean ====
section
/-! DEFINITION. The barcode frame: BARCODE (R120 to R123). -/

namespace Sys2Proof.Machine

/-- The NUL-terminated frame (R121). -/
def nulFrame (s : State) : List Byte := [gs, 0x6B, s.sym] ++ payBytes s ++ [0x00]

/-- The explicit-length frame (R121): its length byte is PLEN, the count of payload bytes (R65). -/
def lengthFrame (s : State) : List Byte := [gs, 0x6B, s.sym, lo8 s.plen.toNat] ++ payBytes s

/-- `BARCODE` (R122): the check comes before any byte is emitted (R123). -/
def execBarcode (s : State) : Host.Outcome State Fault Refusal :=
  if nulFramed s then emitAndSucceed (nulFrame s) s
  else if lengthUnrepresentable s then .next (s.raise .lengthUnrepresentable)
  else emitAndSucceed (lengthFrame s) s

end Sys2Proof.Machine
end

