-- ==== Sys2Proof/Machine/QrCode.lean ====
section
/-! DEFINITION. The QR-code frame sequence: QRCODE (R130 to R138). -/

namespace Sys2Proof.Machine

/-- `QRFrame(fn, params)` (R132): the length pair counts functionGroup onward (R65). -/
def qrFrame (cfg : Config) (fn : Byte) (params : List Byte) : List Byte :=
  [gs, 0x28, 0x6B] ++ pair16 (2 + params.length) ++ [cfg.qrCn, fn] ++ params

/-- Step 1, select model (R133). -/
def qrStep1 (s : State) : List Byte :=
  qrFrame s.cfg s.cfg.qrFnModel [qrModelByte s, s.cfg.qrModelSub]

/-- Step 2, set module size (R134). -/
def qrStep2 (s : State) : List Byte := qrFrame s.cfg s.cfg.qrFnSize [qrSize s]

/-- Step 3, set error-correction level (R135). -/
def qrStep3 (s : State) : List Byte := qrFrame s.cfg s.cfg.qrFnEc [qrLevel s]

/-- Step 4, store data (R136). -/
def qrStep4 (s : State) : List Byte := qrFrame s.cfg s.cfg.qrFnStore (s.cfg.qrStoreM :: payBytes s)

/-- Step 5, trigger print (R137). -/
def qrStep5 (s : State) : List Byte := qrFrame s.cfg s.cfg.qrFnPrint s.cfg.qrPrintTail

/-- The five frames in order (R130). -/
def qrSequence (s : State) : List Byte := qrStep1 s ++ qrStep2 s ++ qrStep3 s ++ qrStep4 s ++ qrStep5 s

/-- `QRCODE` (R138): the length check comes before step 1 (R131). -/
def execQrcode (s : State) : Host.Outcome State Fault Refusal :=
  if payloadTooLong s then .next (s.raise .payloadTooLong) else emitAndSucceed (qrSequence s) s

end Sys2Proof.Machine
end

