-- ==== Sys2Proof/Machine/Rasterizer.lean ====
section
/-! DEFINITION. The Rasterizer: RAST.SIMPLE and RAST.BAND (R100 to R107). -/

namespace Sys2Proof.Machine

/-- `SimpleByte(y, b)`: columns `8b .. 8b+7` of row `y`, leftmost in bit 7 (R101). -/
def simpleByte (s : State) (y b : Nat) : Byte := packByte fun k => s.cell y (8 * b + k)

/-- `SimpleBytes`: rows top to bottom, bytes left to right (R101). -/
def simpleBytes (s : State) : List Byte :=
  (List.range (effHSimple s)).flatMap fun y => (List.range (byteW s)).map fun b => simpleByte s y b

/-- `BandByte(i, j, k)`: rows `24i+8k .. 24i+8k+7` of column `j`, topmost in bit 7 (R105). -/
def bandByte (s : State) (i j k : Nat) : Byte := packByte fun r => s.cell (24 * i + 8 * k + r) j

/-- The three bytes of column `j` of band `i`, top to bottom (R106). -/
def bandColumn (s : State) (i j : Nat) : List Byte := (List.range 3).map fun k => bandByte s i j k

/-- The bytes of band `i`: columns left to right (R106). -/
def bandRow (s : State) (i : Nat) : List Byte := (List.range (effW s)).flatMap fun j => bandColumn s i j

/-- `BandBytes`: bands top to bottom (R106). -/
def bandBytes (s : State) : List Byte := (List.range (nBands s)).flatMap fun i => bandRow s i

/-- `RAST.SIMPLE` (R103). -/
def execRastSimple (s : State) : Host.Outcome State Fault Refusal :=
  .next (((s.setBlock (simpleBytes s) (effW s) (effHSimple s)).setHeader (byteW s) (effHSimple s)).succeed)

/-- `RAST.BAND` (R107): the header pairs are not written. -/
def execRastBand (s : State) : Host.Outcome State Fault Refusal :=
  .next ((s.setBlock (bandBytes s) (effW s) (effHBand s)).succeed)

end Sys2Proof.Machine
end

