-- ==== Sys2Proof/Machine/Dispatch.lean ====
section
/-! DEFINITION. One arm per operation, each a direct call of its meaning. -/

namespace Sys2Proof.Machine

def exec (i : Instr) (s : State) : Host.Outcome State Fault Refusal :=
  match i with
  | .rastSimple => Sys2Proof.Machine.execRastSimple s
  | .rastBand => Sys2Proof.Machine.execRastBand s
  | .prnReset => Sys2Proof.Machine.execPrnReset s
  | .cutFull => Sys2Proof.Machine.execCutFull s
  | .cutPartial => Sys2Proof.Machine.execCutPartial s
  | .setArea => Sys2Proof.Machine.execSetArea s
  | .barcode => Sys2Proof.Machine.execBarcode s
  | .qrcode => Sys2Proof.Machine.execQrcode s
  | .frameBands => Sys2Proof.Machine.execFrameBands s

end Sys2Proof.Machine
end

