-- ==== Sys2Proof/Machine/Registers.lean ====
section
/-! DEFINITION. The register table of R12: numbers, widths, host access, and the one accessor pair that
reads and writes registers. -/

namespace Sys2Proof.Machine

/-- The 24 registers, in number order (R12). -/
inductive Reg where
  | cmd | err | w | h | plen | sym | qmodel | qsize | qec
  | sxl | sxh | syl | syh | exl | exh | eyl | eyh | inc
  | rbW | rbH | hxl | hxh | hyl | hyh
  deriving DecidableEq, Repr

/-- All registers, in number order. -/
def allRegs : List Reg :=
  [.cmd, .err, .w, .h, .plen, .sym, .qmodel, .qsize, .qec, .sxl, .sxh, .syl, .syh, .exl, .exh, .eyl,
   .eyh, .inc, .rbW, .rbH, .hxl, .hxh, .hyl, .hyh]

/-- The register's number (R12). -/
def regNumber : Reg → Byte
  | .cmd => 0x00
  | .err => 0x01
  | .w => 0x02
  | .h => 0x03
  | .plen => 0x04
  | .sym => 0x05
  | .qmodel => 0x06
  | .qsize => 0x07
  | .qec => 0x08
  | .sxl => 0x09
  | .sxh => 0x0A
  | .syl => 0x0B
  | .syh => 0x0C
  | .exl => 0x0D
  | .exh => 0x0E
  | .eyl => 0x0F
  | .eyh => 0x10
  | .inc => 0x11
  | .rbW => 0x12
  | .rbH => 0x13
  | .hxl => 0x14
  | .hxh => 0x15
  | .hyl => 0x16
  | .hyh => 0x17

/-- The register of a number; numbers 0x18 to 0xFF name none (R12). -/
def regOfNumber (n : Byte) : Option Reg := allRegs.find? fun r => regNumber r == n

/-- The register's width in bits (R12). -/
def regWidth : Reg → Nat
  | .w | .h | .plen | .syh | .rbW | .rbH => 16
  | .qmodel => 1
  | .cmd | .err | .sym | .qsize | .qec | .sxl | .sxh | .syl | .exl | .exh | .eyl | .eyh | .inc
  | .hxl | .hxh | .hyl | .hyh => 8

/-- Whether the host may write the register: marked W or RW in R12. -/
def hostWritable : Reg → Bool
  | .cmd | .sym | .qmodel | .qsize | .qec | .sxl | .sxh | .syl | .syh | .exl | .exh | .eyl | .eyh
  | .inc => true
  | .err | .w | .h | .plen | .rbW | .rbH | .hxl | .hxh | .hyl | .hyh => false

/-- Whether the host may read the register: marked R or RW in R12. -/
def hostReadable : Reg → Bool
  | .cmd => false
  | .err | .w | .h | .plen | .sym | .qmodel | .qsize | .qec | .sxl | .sxh | .syl | .syh | .exl | .exh
  | .eyl | .eyh | .inc | .rbW | .rbH | .hxl | .hxh | .hyl | .hyh => true

/-- Whether a host write of `v` is one the register's width expresses (R12); of QMODEL every value is,
since a host write keeps bit 0 only (93_implementation_defined.md U14; log 10). -/
def valueFits (r : Reg) (v : Half) : Bool :=
  match r with
  | .qmodel => true
  | _ => decide (v.toNat < 2 ^ regWidth r)

/-- The value of a register, zeros above its width. `CMD` stores nothing and reads as 0 (R13). -/
def readReg (r : Reg) (s : State) : Half :=
  match r with
  | .cmd => 0
  | .err => s.err.setWidth 16
  | .w => s.w
  | .h => s.h
  | .plen => s.plen
  | .sym => s.sym.setWidth 16
  | .qmodel => s.qmodel.setWidth 16
  | .qsize => s.qsize.setWidth 16
  | .qec => s.qec.setWidth 16
  | .sxl => s.sxl.setWidth 16
  | .sxh => s.sxh.setWidth 16
  | .syl => s.syl.setWidth 16
  | .syh => s.syh
  | .exl => s.exl.setWidth 16
  | .exh => s.exh.setWidth 16
  | .eyl => s.eyl.setWidth 16
  | .eyh => s.eyh.setWidth 16
  | .inc => s.inc.setWidth 16
  | .rbW => s.rbW
  | .rbH => s.rbH
  | .hxl => s.hxl.setWidth 16
  | .hxh => s.hxh.setWidth 16
  | .hyl => s.hyl.setWidth 16
  | .hyh => s.hyh.setWidth 16

/-- A host write of a register, its low bits kept. `CMD` stores nothing (R13), and the registers the
host may not write (R12) are never written here. -/
def writeReg (r : Reg) (v : Half) (s : State) : State :=
  match r with
  | .sym => { s with sym := v.setWidth 8 }
  | .qmodel => { s with qmodel := v.setWidth 1 }
  | .qsize => { s with qsize := v.setWidth 8 }
  | .qec => { s with qec := v.setWidth 8 }
  | .sxl => { s with sxl := v.setWidth 8 }
  | .sxh => { s with sxh := v.setWidth 8 }
  | .syl => { s with syl := v.setWidth 8 }
  | .syh => { s with syh := v }
  | .exl => { s with exl := v.setWidth 8 }
  | .exh => { s with exh := v.setWidth 8 }
  | .eyl => { s with eyl := v.setWidth 8 }
  | .eyh => { s with eyh := v.setWidth 8 }
  | .inc => { s with inc := v.setWidth 8 }
  | .cmd | .err | .w | .h | .plen | .rbW | .rbH | .hxl | .hxh | .hyl | .hyh => s

end Sys2Proof.Machine
end

