-- ==== Sys2Proof/Machine/HostActions.lean ====
section
/-! DEFINITION. The host interface (R13, R27): requesting an operation, loading, reading and writing,
hardware reset, and the sink's consumption. -/

namespace Sys2Proof.Machine

/-- A write of `v` to CMD (R13): the operation whose op-select code is `v`, or IllegalOperation (R185). -/
def request (v : Byte) (s : State) : Host.Outcome State Fault Refusal :=
  match decode [v] with
  | .instr i _ => exec i s
  | .rejected _ => .next (s.raise .illegalOperation)

/-- Whether a grid of `cells` cells is beyond the capacity (R5, R27). -/
def beyondCap (cap : Option Nat) (cells : Nat) : Bool :=
  match cap with
  | none => false
  | some n => decide (n < cells)

/-- `LoadGrid` (R27). -/
def hostLoadGrid (w h : Half) (cells : List (List Bool)) (s : State) : Host.Outcome State Fault Refusal :=
  if !gridShape w.toNat h.toNat cells then .refused .malformedGrid
  else if beyondCap s.cfg.gridCap (w.toNat * h.toNat) then .refused .gridTooLarge
  else .next (s.loadGrid w h cells)

/-- `LoadPayload` (R27). -/
def hostLoadPayload (bytes : List Byte) (s : State) : Host.Outcome State Fault Refusal :=
  if payCap < bytes.length then .refused .payloadTooLarge else .next (s.loadPayload bytes)

/-- `WriteReg` (R27); of CMD it is a request (R13). -/
def hostWriteReg (n : Byte) (v : Half) (s : State) : Host.Outcome State Fault Refusal :=
  match regOfNumber n with
  | none => .refused .noSuchRegister
  | some r =>
    if !hostWritable r then .refused .notHostWritable
    else if !valueFits r v then .refused .valueTooWide
    else if r = .cmd then request (v.setWidth 8) s
    else .next (writeReg r v s)

/-- `ReadReg` (R27). -/
def hostReadReg (n : Byte) (s : State) : Host.Outcome State Fault Refusal :=
  match regOfNumber n with
  | none => .refused .noSuchRegister
  | some r =>
    if hostReadable r then .next (s.logRead (.reg n (readReg r s))) else .refused .notHostReadable

/-- `ReadRB` (R27). -/
def hostReadRB (i : Nat) (s : State) : Host.Outcome State Fault Refusal :=
  match s.rb[i]? with
  | none => .refused .rbIndexOutOfRange
  | some b => .next (s.logRead (.rb i b))

/-- One action of the host or the sink (R27). -/
def perform (a : Action) (s : State) : Host.Outcome State Fault Refusal :=
  match a with
  | .loadGrid w h cells => hostLoadGrid w h cells s
  | .loadPayload bytes => hostLoadPayload bytes s
  | .writeReg n v => hostWriteReg n v s
  | .readReg n => hostReadReg n s
  | .readRB i => hostReadRB i s
  | .hardReset => .next s.hardReset
  | .sinkTake n => .next (s.sinkTake n)

/-- The next action taken off the script and performed; with none left the block stays idle and all
state survives (R193; log 2). -/
def nextAction (s : State) : Host.Outcome State Fault Refusal :=
  match s.script with
  | [] => .next s
  | a :: rest => perform a (s.setScript rest)

/-- The script with a request of byte `b` put first. -/
def withRequest (b : Byte) (s : State) : State := s.setScript (.writeReg 0x00 (b.setWidth 16) :: s.script)

end Sys2Proof.Machine
end

