-- ==== Sys2Proof/Machine/Step.lean ====
section
/-! DEFINITION. One step: the next action of the host's script (R13, R24, R27; log 1). -/

namespace Sys2Proof.Machine

/-- One step of the machine. -/
def step (s : State) : Host.Outcome State Fault Refusal := nextAction s

/-- `s` with the request of a table word as the next action: the byte is written to CMD. -/
def State.withFetchWord (s : State) (nbits w : Nat) : State := withRequest (tableRequest nbits w) s

end Sys2Proof.Machine
end

