-- ==== Sys2Proof/Machine/Assembler.lean ====
section
/-! DEFINITION. The assembler's lines and pseudo-operations (R74, R75) and the symbology table (R120), as
functions to host actions: notation, no part of the hardware. -/

namespace Sys2Proof.Machine

/-- The six defined symbologies (R120). -/
inductive Symbology where
  | upcA | upcE | ean13 | ean8 | code39 | code128
  deriving DecidableEq, Repr

/-- The code byte of a symbology (R17, R120). -/
def symbologyCode : Symbology → Byte
  | .upcA => 0x00
  | .upcE => 0x01
  | .ean13 => 0x02
  | .ean8 => 0x03
  | .code39 => 0x04
  | .code128 => 0x49

/-- The two framings of a barcode (R121). -/
inductive Framing where
  | nulTerminated
  | explicitLength
  deriving DecidableEq, Repr

/-- The framing of a code byte (R121, R125): a function of the code alone. -/
def framingOf (code : Byte) : Framing :=
  if code.toNat < barcodeThreshold then .nulTerminated else .explicitLength

/-- `SET reg, value` (R74). -/
def setLine (r : Reg) (v : Half) : Action := .writeReg (regNumber r) v

/-- `<mnemonic>` (R74): a write of the op-select code to CMD. -/
def opLine (i : Instr) : Action := .writeReg (regNumber .cmd) ((opSelCode i).setWidth 16)

/-- `GET reg` (R74). -/
def getLine (r : Reg) : Action := .readReg (regNumber r)

/-- `GETRB` of a block of `n` bytes (R74). -/
def getRBLines (n : Nat) : List Action := (List.range n).map .readRB

/-- `LOADGRID w h rows` (R74), rows as strings of '#' (black) and '.' (white), top row first. -/
def loadGridLine (w h : Half) (rows : List String) : Action :=
  .loadGrid w h (rows.map fun row => row.toList.map fun ch => ch == '#')

/-- The eight `SET`s of the position registers (R75). -/
def positionLines (sx sy ex ey : Half) : List Action :=
  let low (v : Half) : Half := (lo8 v.toNat).setWidth 16
  let high (v : Half) : Half := (hi8 v.toNat).setWidth 16
  [ setLine .sxl (low sx), setLine .sxh (high sx), setLine .syl (low sy), setLine .syh (high sy)
  , setLine .exl (low ex), setLine .exh (high ex), setLine .eyl (low ey), setLine .eyh (high ey) ]

/-- `PRINT.BANDS sx sy ex ey inc` (R75). -/
def printBandsLines (sx sy ex ey : Half) (inc : Byte) : List Action :=
  positionLines sx sy ex ey ++ [setLine .inc (inc.setWidth 16), opLine .rastBand, opLine .frameBands]

/-- `BARCODE name "text"` (R75), the text as bytes. -/
def barcodeLines (name : Symbology) (text : List Byte) : List Action :=
  [setLine .sym ((symbologyCode name).setWidth 16), .loadPayload text, opLine .barcode]

/-- `QRCODE model size ec "text"` (R75), the text as bytes. -/
def qrcodeLines (model : BitVec 1) (size ec : Byte) (text : List Byte) : List Action :=
  [ setLine .qmodel (model.setWidth 16), setLine .qsize (size.setWidth 16), setLine .qec (ec.setWidth 16)
  , .loadPayload text, opLine .qrcode ]

/-- `AREA x y x2 y2` (R75). -/
def areaLines (x y x2 y2 : Half) : List Action := positionLines x y x2 y2 ++ [opLine .setArea]

end Sys2Proof.Machine
end

