-- ==== Sys2Proof/Machine/FrontEnd.lean ====
section
/-! DEFINITION. The front end's reference functions (R90 to R96): pure functions outside the block, by
which a test bench makes a grid. No step of the machine calls them. -/

namespace Sys2Proof.Machine

/-- A pixel: four independent 8-bit channels (R90). -/
structure Pixel where
  red : Byte
  green : Byte
  blue : Byte
  alpha : Byte
  deriving DecidableEq, Repr

/-- One channel composited over white: `(A * ch + (255 - A) * 255) div 255` (R91). -/
def compositeChannel (alpha ch : Byte) : Byte :=
  BitVec.ofNat 8 ((alpha.toNat * ch.toNat + (255 - alpha.toNat) * 255) / 255)

/-- `Composite` (R91): opaque RGB. -/
def composite (p : Pixel) : Pixel where
  red := compositeChannel p.alpha p.red
  green := compositeChannel p.alpha p.green
  blue := compositeChannel p.alpha p.blue
  alpha := 255

/-- A thousand times the exact luminance (R93, R94). -/
def luminance1000 (r g b : Byte) : Nat := 299 * r.toNat + 587 * g.toNat + 114 * b.toNat

/-- The exact-rational comparison (R94, D29): strict, so a colour of exact luminance 128 is white. -/
def lumBelow128Exact (r g b : Byte) : Bool := decide (luminance1000 r g b < 128000)

/-- The reference instance of the front end's configuration (R94): the spec's own choice, D29. -/
def frontEndRef : FrontEndConfig where
  lumBelow128 := lumBelow128Exact

/-- What a claim may assume of the configured comparison: R93's cutoff for every colour whose exact
luminance is not 128, and nothing at the tie (DEDUCED from R93 and D29, log 15). -/
def followsR93 (c : FrontEndConfig) : Prop :=
  ∀ r g b : Byte, (luminance1000 r g b < 128000 → c.lumBelow128 r g b = true) ∧
    (128000 < luminance1000 r g b → c.lumBelow128 r g b = false)

/-- `Threshold` (R93) under a configured comparison: the bit of an opaque pixel, `true` is black. -/
def threshold (c : FrontEndConfig) (p : Pixel) : Bool := c.lumBelow128 p.red p.green p.blue

/-- The grid of a picture (R96), rows top first. -/
def frontEnd (c : FrontEndConfig) (picture : List (List Pixel)) : List (List Bool) :=
  picture.map fun row => row.map fun p => threshold c (composite p)

end Sys2Proof.Machine
end

