-- ==== Sys2Proof/WellFormed.lean ====
section
/-! DEFINITION. Well-formedness of operations and of host actions. -/

namespace Sys2Proof

/-- Every operation is well formed: a request has no register field, no immediate and no mode bit (R60). -/
def Instr.wf : Instr → Bool
  | .rastSimple | .rastBand | .prnReset | .cutFull | .cutPartial | .setArea
  | .barcode | .qrcode | .frameBands => true

namespace Machine

/-- Whether an action is one R27 can express and the interface allows, as far as the action alone
shows: a grid has its own shape, a payload fits, a register exists, may be accessed and holds the value.
GRID_CAP and len(RB) are checked by the step. -/
def Action.wf : Action → Bool
  | .loadGrid w h cells => gridShape w.toNat h.toNat cells
  | .loadPayload bytes => decide (bytes.length ≤ payCap)
  | .writeReg n v =>
    match regOfNumber n with
    | none => false
    | some r => hostWritable r && valueFits r v
  | .readReg n =>
    match regOfNumber n with
    | none => false
    | some r => hostReadable r
  | .readRB _ => true
  | .hardReset => true
  | .sinkTake _ => true

end Machine

end Sys2Proof
end

