-- ==== Sys2Proof/Safety.lean ====
section
/-! DEFINITION. What claims are stated in: the invariant of the machine, which actions the interface
accepts, and the reads and writes of each operation as R62 lists them. -/

namespace Sys2Proof.Machine

/-- The invariant every step keeps: the memories have their shape (R15, R16, R21), the raster block's
width is a multiple of 8 (R21), ERR holds a code the block writes (R181), the header pairs are in the
range R22 and R102 give them, and the configuration meets its constraints (D22). -/
structure State.Inv (s : State) : Prop where
  memory : Memory.wf s = true
  blockWidth : s.rbW.toNat % 8 = 0
  errCode : s.err ∈ errCodes
  headerWidth : s.hxh.toNat ≤ 31
  headerHeight : s.hyl.toNat % 8 = 0
  config : s.cfg.wf = true

/-- Whether the interface accepts an action in a state: the action is well formed, a grid fits GRID_CAP,
an index of RB is in range (R27). -/
def Accepted (a : Action) (s : State) : Prop :=
  a.wf = true ∧
    match a with
    | .loadGrid w h _ => beyondCap s.cfg.gridCap (w.toNat * h.toNat) = false
    | .readRB i => i < s.rb.length
    | .loadPayload _ | .writeReg _ _ | .readReg _ | .hardReset | .sinkTake _ => True

/-- The operations of the Rasterizer (R2): they replace RB and never touch OUT (R23). -/
def rasterizes : Instr → Bool
  | .rastSimple | .rastBand => true
  | .prnReset | .cutFull | .cutPartial | .setArea | .barcode | .qrcode | .frameBands => false

/-- The registers an operation writes (R62; every operation writes ERR, R14). -/
def writtenRegs : Instr → List Reg
  | .rastSimple => [.rbW, .rbH, .hxl, .hxh, .hyl, .hyh, .err]
  | .rastBand => [.rbW, .rbH, .err]
  | .frameBands => [.syl, .syh, .err]
  | .prnReset | .cutFull | .cutPartial | .setArea | .barcode | .qrcode => [.err]

/-- Two states agree on the eight position registers. -/
def samePosition (a b : State) : Prop :=
  a.sxl = b.sxl ∧ a.sxh = b.sxh ∧ a.syl = b.syl ∧ a.syh = b.syh ∧
    a.exl = b.exl ∧ a.exh = b.exh ∧ a.eyl = b.eyl ∧ a.eyh = b.eyh

/-- Two states agree on the grid's dimensions and on its cells in the first `h` rows and `w` columns. -/
def sameCells (w h : Nat) (a b : State) : Prop :=
  a.w = b.w ∧ a.h = b.h ∧ ∀ r c, r < h → c < w → a.cell r c = b.cell r c

/-- Two states agree on everything R62 says an operation reads. -/
def sameReads (i : Instr) (a b : State) : Prop :=
  match i with
  | .rastSimple => sameCells (effW a) (effHSimple a) a b
  | .rastBand => sameCells (effW a) (effHBand a) a b
  | .prnReset | .cutFull | .cutPartial => True
  | .setArea => samePosition a b
  | .barcode => a.sym = b.sym ∧ a.plen = b.plen ∧ payBytes a = payBytes b
  | .qrcode =>
    a.qmodel = b.qmodel ∧ a.qsize = b.qsize ∧ a.qec = b.qec ∧ a.plen = b.plen ∧
      payBytes a = payBytes b ∧ a.cfg = b.cfg
  | .frameBands =>
    a.rb = b.rb ∧ a.rbW = b.rbW ∧ a.rbH = b.rbH ∧ samePosition a b ∧ a.inc = b.inc ∧ a.cfg = b.cfg

/-- The four memories and the model's own fields other than the script are as before. -/
def sameOutside (a b : State) : Prop :=
  a.grid = b.grid ∧ a.pay = b.pay ∧ a.rb = b.rb ∧ a.out = b.out ∧
    a.cfg = b.cfg ∧ a.reads = b.reads ∧ a.sunk = b.sunk

end Sys2Proof.Machine
end

