-- ==== Sys2Proof/Certificates/Slice0/Obligations.lean ====
section
/-! DEFINITION. The statements for the provers. -/

open Sys2Proof Sys2Proof.Machine

/-! ### Requests -/

/-- R61: the nine codes, and no other byte, select an operation. -/
def Obligations.OpSelectCodesDecode : Prop :=
  decode [0x01] = .instr .rastSimple [] ∧ decode [0x02] = .instr .rastBand [] ∧
  decode [0x10] = .instr .prnReset [] ∧ decode [0x11] = .instr .cutFull [] ∧
  decode [0x12] = .instr .cutPartial [] ∧ decode [0x13] = .instr .setArea [] ∧
  decode [0x20] = .instr .barcode [] ∧ decode [0x21] = .instr .qrcode [] ∧
  decode [0x22] = .instr .frameBands [] ∧
  ∀ b : Byte, b ∉ [0x01, 0x02, 0x10, 0x11, 0x12, 0x13, 0x20, 0x21, 0x22] →
    decode [b] = .rejected (.illegalOpSelect b)

/-- Decoding and encoding agree on whole request sequences, in both directions: every sequence of
operations is read back from its bytes, and bytes that decode are the encoding of what they decode to. -/
def Obligations.RequestSequencesRoundTrip : Prop :=
  (∀ is : List Instr, decodeAll (encodeAll is) = .ok is) ∧
  (∀ (bs : List Byte) (is : List Instr), decodeAll bs = .ok is → encodeAll is = bs)

/-- R13: when the next action writes to CMD a byte that decodes to a well-formed operation, the step is
`exec` of that operation with the action taken off the script. -/
def Obligations.StepRunsTheRequestedOperation : Prop :=
  ∀ (s : State) (v : Byte) (rest : List Action) (i : Instr),
    s.script = .writeReg 0x00 (v.setWidth 16) :: rest → decode [v] = .instr i [] → i.wf = true →
    step s = exec i { s with script := rest }

/-- R71, R185: a write to CMD of any other byte sets ERR to 4 and changes nothing else (the spec's
decision D12). -/
def Obligations.IllegalRequestOnlySetsErr : Prop :=
  ∀ (s : State) (v : Byte) (rest : List Action),
    s.script = .writeReg 0x00 (v.setWidth 16) :: rest →
    v ∉ [0x01, 0x02, 0x10, 0x11, 0x12, 0x13, 0x20, 0x21, 0x22] →
    step s = .next { s with script := rest, err := 4 }

/-- R180 for every request: of a code or of any other byte (decision D12 of the spec), it ends in success
(ERR 0) or in an error, whose code is 1, 3 (decision D13) or 4 (D12) and never 2 (decision D11; DEDUCED,
log 16), and after either any further request is performed too. -/
def Obligations.EveryRequestEndsInSuccessOrError : Prop :=
  ∀ (v : Byte) (s : State), ∃ t, request v s = .next t ∧
    (t.err = 0 ∨ t.err = 1 ∨ t.err = 3 ∨ t.err = 4) ∧
    ∀ v' : Byte, ∃ u, request v' t = .next u

/-- R182: PayloadTooLong is left in ERR by QRCODE with more than 7089 payload bytes and by nothing else,
and no frame byte is then written. -/
def Obligations.PayloadTooLongExactlyWhen : Prop :=
  ∀ (v : Byte) (s t : State), request v s = .next t →
    (t.err = 1 ↔ v = 0x21 ∧ 7089 < s.plen.toNat) ∧ (t.err = 1 → t.out = s.out)

/-- The other codes of R181, each exactly when its condition holds: 0, 3 and 4; codes 2 and 5 to 255 are
never left in ERR (decisions D10 to D13 of the spec). -/
def Obligations.ErrorCodesExactlyWhen : Prop :=
  ∀ (v : Byte) (s t : State), request v s = .next t →
    (t.err = 3 ↔ v = 0x20 ∧ 69 ≤ s.sym.toNat ∧ 255 < s.plen.toNat) ∧
    (t.err = 4 ↔ v ∉ [0x01, 0x02, 0x10, 0x11, 0x12, 0x13, 0x20, 0x21, 0x22]) ∧
    t.err ≠ 2 ∧ t.err.toNat < 5

/-- R189: an error has no effect but the code in ERR (decision D10 of the spec). -/
def Obligations.ErrorsArePrecise : Prop :=
  ∀ (v : Byte) (s t : State), request v s = .next t → t.err ≠ 0 → t = { s with err := t.err }

/-! ### The Rasterizer -/

/-- R102 with the dimensions of R100: RAST.SIMPLE succeeds in every state; the block's dimensions are the
largest multiples of 8 at or below W and H, and the header pairs are the byte width and the pixel height
split low and high. -/
def Obligations.RastSimpleDimensions : Prop :=
  ∀ s : State, ∃ t, exec .rastSimple s = .next t ∧
    t.rbW.toNat = 8 * (s.w.toNat / 8) ∧ t.rbH.toNat = 8 * (s.h.toNat / 8) ∧
    8 ∣ t.rbW.toNat ∧ t.rbW.toNat ≤ s.w.toNat ∧ s.w.toNat - t.rbW.toNat ≤ 7 ∧
    8 ∣ t.rbH.toNat ∧ t.rbH.toNat ≤ s.h.toNat ∧ s.h.toNat - t.rbH.toNat ≤ 7 ∧
    t.hxl.toNat = t.rbW.toNat / 8 % 256 ∧ t.hxh.toNat = t.rbW.toNat / 8 / 256 ∧
    t.hyl.toNat = t.rbH.toNat % 256 ∧ t.hyh.toNat = t.rbH.toNat / 256 ∧ t.err = 0

/-- R101 (its row order is decision D16 of the spec): the byte of row `y` and index `b` stands at
`y * byteW + b`, and its bit `7 - k` is the cell of row `y` and column `8b + k`. -/
def Obligations.RastSimpleBytes : Prop :=
  ∀ s : State, ∃ t, exec .rastSimple s = .next t ∧
    t.rb.length = s.w.toNat / 8 * (8 * (s.h.toNat / 8)) ∧
    ∀ y b, y < 8 * (s.h.toNat / 8) → b < s.w.toNat / 8 →
      ∃ byte, t.rb[y * (s.w.toNat / 8) + b]? = some byte ∧
        ∀ k, k < 8 → byte.getLsbD (7 - k) = s.cell y (8 * b + k)

/-- R104: RAST.BAND succeeds in every state; the block's width is the largest multiple of 8 at or below
W, its height the largest multiple of 24 at or below H, and its bands are as many as H holds whole. -/
def Obligations.RastBandDimensions : Prop :=
  ∀ s : State, ∃ t, exec .rastBand s = .next t ∧
    t.rbW.toNat = 8 * (s.w.toNat / 8) ∧ t.rbH.toNat = 24 * (s.h.toNat / 24) ∧
    8 ∣ t.rbW.toNat ∧ t.rbW.toNat ≤ s.w.toNat ∧ s.w.toNat - t.rbW.toNat ≤ 7 ∧
    24 ∣ t.rbH.toNat ∧ t.rbH.toNat ≤ s.h.toNat ∧ s.h.toNat - t.rbH.toNat ≤ 23 ∧
    t.rbH.toNat / 24 = s.h.toNat / 24 ∧ t.err = 0

/-- The frames of R103 and R107 and the bound of R102: the rasterizing operations succeed and change
nothing but RB, its dimensions, ERR and, RAST.SIMPLE only, the header pairs (RAST.BAND leaves those as they
are by decision D17 of the spec); HXH is then at most 31. -/
def Obligations.RasterizingFrames : Prop :=
  ∀ s : State, ∃ t u, exec .rastSimple s = .next t ∧ exec .rastBand s = .next u ∧
    t.hxh.toNat ≤ 31 ∧
    t = { s with rb := t.rb, rbW := t.rbW, rbH := t.rbH, hxl := t.hxl, hxh := t.hxh,
                 hyl := t.hyl, hyh := t.hyh, err := 0 } ∧
    u = { s with rb := u.rb, rbW := u.rbW, rbH := u.rbH, err := 0 }

/-- R106 with the packing of R105 (its reading of "swapped" is decision D15 of the spec): the byte of
band `i`, column `j` and sub-byte `k` stands at `i * 3 * effW + 3 * j + k`, and its bit `7 - r` is the
cell of row `24i + 8k + r` and column `j`. -/
def Obligations.RastBandBytes : Prop :=
  ∀ s : State, ∃ t, exec .rastBand s = .next t ∧
    t.rb.length = s.h.toNat / 24 * (8 * (s.w.toNat / 8)) * 3 ∧
    ∀ i j k, i < s.h.toNat / 24 → j < 8 * (s.w.toNat / 8) → k < 3 →
      ∃ byte, t.rb[i * (3 * (8 * (s.w.toNat / 8))) + 3 * j + k]? = some byte ∧
        ∀ r, r < 8 → byte.getLsbD (7 - r) = s.cell (24 * i + 8 * k + r) j

/-- R82, the inverse maps: in the simple layout cell `(r, c)` is bit `7 - c mod 8` of byte
`r * byteW + c div 8`; in the band layout it is bit `7 - r mod 8` of byte
`(r div 24) * 3 * effW + 3 * c + (r mod 24) div 8`. -/
def Obligations.EveryEffectiveCellHasItsBit : Prop :=
  ∀ s : State, ∃ a b, exec .rastSimple s = .next a ∧ exec .rastBand s = .next b ∧
    (∀ r c, r < a.rbH.toNat → c < a.rbW.toNat →
      ∃ byte, a.rb[r * (a.rbW.toNat / 8) + c / 8]? = some byte ∧
        byte.getLsbD (7 - c % 8) = s.cell r c) ∧
    (∀ r c, r < b.rbH.toNat → c < b.rbW.toNat →
      ∃ byte, b.rb[r / 24 * (3 * b.rbW.toNat) + 3 * c + r % 24 / 8]? = some byte ∧
        byte.getLsbD (7 - r % 8) = s.cell r c)

/-- R45: a dimension that is no multiple never faults, and the dropped columns and rows are never read:
two grids of the same dimensions that agree on the effective cells give the same raster block. -/
def Obligations.DroppedCellsAreNeverRead : Prop :=
  ∀ a b : State, a.w = b.w → a.h = b.h →
    ((∀ r c, r < 8 * (a.h.toNat / 8) → c < 8 * (a.w.toNat / 8) → a.cell r c = b.cell r c) →
      ∃ t u, exec .rastSimple a = .next t ∧ exec .rastSimple b = .next u ∧
        t.rb = u.rb ∧ t.rbW = u.rbW ∧ t.rbH = u.rbH ∧ t.err = 0 ∧ u.err = 0) ∧
    ((∀ r c, r < 24 * (a.h.toNat / 24) → c < 8 * (a.w.toNat / 8) → a.cell r c = b.cell r c) →
      ∃ t u, exec .rastBand a = .next t ∧ exec .rastBand b = .next u ∧
        t.rb = u.rb ∧ t.rbW = u.rbW ∧ t.rbH = u.rbH ∧ t.err = 0 ∧ u.err = 0)

/-- R103, R108: running either packing operation a second time on the same grid changes nothing, and
either replaces all that the other left in RB and its dimensions. -/
def Obligations.RasterizingIsIdempotent : Prop :=
  ∀ s t u : State, exec .rastSimple s = .next t → exec .rastBand s = .next u →
    exec .rastSimple t = .next t ∧ exec .rastBand u = .next u ∧
    (∃ x, exec .rastBand t = .next x ∧ x.rb = u.rb ∧ x.rbW = u.rbW ∧ x.rbH = u.rbH) ∧
    exec .rastSimple u = .next t

/-! ### The fixed commands -/

/-- R171, R172, R173: each fixed command, requested by its code, appends its bytes, sets ERR to 0 and
changes nothing else; in particular PRN.RESET does not reset the block. -/
def Obligations.FixedCommandsEmitTheirBytes : Prop :=
  encode .prnReset = [0x10] ∧ encode .cutFull = [0x11] ∧ encode .cutPartial = [0x12] ∧
  ∀ s : State,
    exec .prnReset s = .next { s with out := s.out ++ [0x1B, 0x40], err := 0 } ∧
    exec .cutFull s = .next { s with out := s.out ++ [0x1D, 0x56, 0x41, 0x00], err := 0 } ∧
    exec .cutPartial s = .next { s with out := s.out ++ [0x1D, 0x56, 0x01], err := 0 }

/-- R174 (the registers and the emitted `SYH mod 256` are decision D33 of the spec): SET.AREA appends ten
bytes, the four little-endian pairs after `1B 57`, and changes nothing else but ERR. -/
def Obligations.SetAreaEmitsTenBytes : Prop :=
  ∀ s : State, ∃ yh : Byte, yh.toNat = s.syh.toNat % 256 ∧
    exec .setArea s = .next { s with
      out := s.out ++ [0x1B, 0x57, s.sxl, s.sxh, s.syl, yh, s.exl, s.exh, s.eyl, s.eyh], err := 0 }

/-! ### Barcodes -/

/-- R121, both framings: codes 0 to 68 give the NUL-terminated frame, codes 69 to 255 (with a payload the
length byte can state) the explicit-length frame; only OUT and ERR change. -/
def Obligations.BarcodeFraming : Prop :=
  ∀ s : State, s.Inv →
    (s.sym.toNat ≤ 68 →
      exec .barcode s = .next { s with out := s.out ++ ([0x1D, 0x6B, s.sym] ++ s.pay ++ [0x00]), err := 0 }) ∧
    (69 ≤ s.sym.toNat → s.plen.toNat ≤ 255 →
      ∃ len : Byte, len.toNat = s.pay.length ∧
        exec .barcode s = .next { s with out := s.out ++ ([0x1D, 0x6B, s.sym, len] ++ s.pay), err := 0 })

/-- R123 (decision D13 of the spec): an explicit-length code with more than 255 payload bytes sets ERR to
3 and emits nothing. -/
def Obligations.BarcodeLengthUnrepresentable : Prop :=
  ∀ s : State, 69 ≤ s.sym.toNat → 255 < s.plen.toNat → exec .barcode s = .next { s with err := 3 }

/-- R122: on success BARCODE appends exactly PLEN + 4 bytes, in either form. -/
def Obligations.BarcodeAppendsPlenPlusFour : Prop :=
  ∀ s t : State, s.Inv → exec .barcode s = .next t → t.err = 0 →
    ∃ frame, t.out = s.out ++ frame ∧ frame.length = s.plen.toNat + 4

/-- R124: DOC0's two barcode frames, `1234A` as Code128 and `123456789012` as UPC-A. -/
def Obligations.BarcodeWorkedExamples : Prop :=
  ∀ s : State,
    (s.sym = symbologyCode .code128 → s.plen = 5 → s.pay = [0x31, 0x32, 0x33, 0x34, 0x41] →
      exec .barcode s = .next { s with
        out := s.out ++ [0x1D, 0x6B, 0x49, 0x05, 0x31, 0x32, 0x33, 0x34, 0x41], err := 0 }) ∧
    (s.sym = symbologyCode .upcA → s.plen = 12 →
      s.pay = [0x31, 0x32, 0x33, 0x34, 0x35, 0x36, 0x37, 0x38, 0x39, 0x30, 0x31, 0x32] →
      exec .barcode s = .next { s with
        out := s.out ++ [0x1D, 0x6B, 0x00, 0x31, 0x32, 0x33, 0x34, 0x35, 0x36, 0x37, 0x38, 0x39, 0x30,
          0x31, 0x32, 0x00], err := 0 })

/-! ### QR codes -/

/-- R131: a payload of more than 7089 bytes sets ERR to 1 before any byte is emitted; with 7089 bytes or
fewer QRCODE succeeds, its five frames are appended whole, and step 4 states the total of PLEN + 3. -/
def Obligations.QrLengthCheckComesFirst : Prop :=
  ∀ s : State,
    (7089 < s.plen.toNat → exec .qrcode s = .next { s with err := 1 }) ∧
    (s.plen.toNat ≤ 7089 → exec .qrcode s = .next { s with
      out := s.out ++ qrStep1 s ++ qrStep2 s ++ qrStep3 s ++ qrStep4 s ++ qrStep5 s, err := 0 }) ∧
    (s.Inv → s.plen.toNat ≤ 7089 →
      ((qrStep4 s).getD 3 0).toNat + 256 * ((qrStep4 s).getD 4 0).toNat = s.plen.toNat + 3)

/-- R138 with R130 and R133 to R137: the five frames in order, byte for byte, the size and the level
clamped, the payload behind the fixed byte, the tail of step 5 as configured (decision D22 of the spec);
nothing changes but OUT and ERR, so the clamped values are not written back. -/
def Obligations.QrFiveFrames : Prop :=
  ∀ s : State, s.Inv → s.plen.toNat ≤ 7089 →
    ∃ size level nLow nHigh tLow : Byte,
      size.toNat = max 1 (min 16 s.qsize.toNat) ∧
      level.toNat = max s.cfg.qrEcLo.toNat (min s.cfg.qrEcHi.toNat s.qec.toNat) ∧
      nLow.toNat = (s.plen.toNat + 3) % 256 ∧ nHigh.toNat = (s.plen.toNat + 3) / 256 ∧
      tLow.toNat = 2 + s.cfg.qrPrintTail.length ∧
      exec .qrcode s = .next { s with
        out := s.out ++
          ([0x1D, 0x28, 0x6B, 0x04, 0x00, s.cfg.qrCn, s.cfg.qrFnModel,
            if s.qmodel = 0 then s.cfg.qrModelByte0 else s.cfg.qrModelByte1, s.cfg.qrModelSub] ++
           [0x1D, 0x28, 0x6B, 0x03, 0x00, s.cfg.qrCn, s.cfg.qrFnSize, size] ++
           [0x1D, 0x28, 0x6B, 0x03, 0x00, s.cfg.qrCn, s.cfg.qrFnEc, level] ++
           ([0x1D, 0x28, 0x6B, nLow, nHigh, s.cfg.qrCn, s.cfg.qrFnStore, s.cfg.qrStoreM] ++ s.pay) ++
           ([0x1D, 0x28, 0x6B, tLow, 0x00, s.cfg.qrCn, s.cfg.qrFnPrint] ++ s.cfg.qrPrintTail)),
        err := 0 }

/-- R138: on success QRCODE appends exactly PLEN + 40 + len(QR_PRINT_TAIL) bytes. -/
def Obligations.QrAppendedLength : Prop :=
  ∀ s t : State, s.Inv → exec .qrcode s = .next t → t.err = 0 →
    ∃ frames, t.out = s.out ++ frames ∧ frames.length = s.plen.toNat + 40 + s.cfg.qrPrintTail.length

/-- R134: the size byte is 1 for QSIZE 0, QSIZE itself from 1 to 16, and 16 above, so always 1 to 16; it
is the parameter of step 2, whose length pair is `03 00`. -/
def Obligations.QrModuleSizeClamps : Prop :=
  ∀ s : State,
    (s.qsize.toNat < 1 → (qrSize s).toNat = 1) ∧
    (1 ≤ s.qsize.toNat → s.qsize.toNat ≤ 16 → qrSize s = s.qsize) ∧
    (16 < s.qsize.toNat → (qrSize s).toNat = 16) ∧
    1 ≤ (qrSize s).toNat ∧ (qrSize s).toNat ≤ 16 ∧
    qrStep2 s = [0x1D, 0x28, 0x6B, 0x03, 0x00, s.cfg.qrCn, s.cfg.qrFnSize, qrSize s]

/-- R135: the level byte is the nearest bound outside the configured range and QEC itself inside; it is
the parameter of step 3, whose length pair is `03 00`. -/
def Obligations.QrLevelClamps : Prop :=
  ∀ s : State, s.Inv →
    (s.qec.toNat < s.cfg.qrEcLo.toNat → qrLevel s = s.cfg.qrEcLo) ∧
    (s.cfg.qrEcLo.toNat ≤ s.qec.toNat → s.qec.toNat ≤ s.cfg.qrEcHi.toNat → qrLevel s = s.qec) ∧
    (s.cfg.qrEcHi.toNat < s.qec.toNat → qrLevel s = s.cfg.qrEcHi) ∧
    s.cfg.qrEcHi.toNat = s.cfg.qrEcLo.toNat + 3 ∧
    qrStep3 s = [0x1D, 0x28, 0x6B, 0x03, 0x00, s.cfg.qrCn, s.cfg.qrFnEc, qrLevel s]

/-- R65: a length prefix is the exact byte count of what it covers: in an explicit-length barcode frame
the bytes after the length byte, in each QR frame the bytes from functionGroup on. -/
def Obligations.LengthPrefixesAreExact : Prop :=
  ∀ s : State, s.Inv →
    (s.plen.toNat ≤ 255 → ((lengthFrame s).getD 3 0).toNat = ((lengthFrame s).drop 4).length) ∧
    (s.plen.toNat ≤ 7089 → ∀ frame ∈ [qrStep1 s, qrStep2 s, qrStep3 s, qrStep4 s, qrStep5 s],
      (frame.getD 3 0).toNat + 256 * (frame.getD 4 0).toNat = (frame.drop 5).length)

/-! ### Raster-band frames -/

/-- R154 (the widths are decision D21 of the spec): the advance adds the whole pre-overflow sum to the
accumulator when the sum is above 255, leaves it alone otherwise, and reduces the low byte; the byte of
the accumulator that is emitted then grows by the new low byte. -/
def Obligations.YAdvance : Prop :=
  ∀ s : State,
    (advanceY s).syl.toNat = (s.syl.toNat + s.inc.toNat) % 256 ∧
    (255 < s.syl.toNat + s.inc.toNat →
      (advanceY s).syh.toNat = (s.syh.toNat + (s.syl.toNat + s.inc.toNat)) % 65536 ∧
      (advanceY s).syh.toNat % 256 = (s.syh.toNat + (advanceY s).syl.toNat) % 256) ∧
    (s.syl.toNat + s.inc.toNat ≤ 255 → (advanceY s).syh = s.syh) ∧
    advanceY s = { s with syl := (advanceY s).syl, syh := (advanceY s).syh }

/-- R156: DOC0's worked example, low byte 250 and increment 10. -/
def Obligations.YAdvanceWorkedExample : Prop :=
  ∀ s : State, s.syl = 250 → s.inc = 10 →
    (advanceY s).syl = 4 ∧ (advanceY s).syh = s.syh + 260 ∧
    (s.syh = 0 → (posBytes (advanceY s)).getD 4 0 = 0x04 ∧ (posBytes (advanceY s)).getD 5 0 = 0x04)

/-- R157: the start-Y pairs of seven bands from (200, 0) with increment 24. -/
def Obligations.YAdvanceSevenBands : Prop :=
  ∀ s : State, s.syl = 200 → s.syh = 0 → s.inc = 24 →
    (List.range 7).map (fun n => ((advanceY^[n] s).syl.toNat, (advanceY^[n] s).syh.toNat)) =
      [(200, 0), (224, 0), (248, 0), (16, 272), (40, 272), (64, 272), (88, 272)]

/-- R154 over any number of bands: the low byte after `n` advances is `SYL + n * INC` modulo 256. -/
def Obligations.YLowByteAfterManyAdvances : Prop :=
  ∀ (n : Nat) (s : State), (advanceY^[n] s).syl.toNat = (s.syl.toNat + n * s.inc.toNat) % 256

/-- R155 (decisions D18 to D21 and D25 of the spec): FRAME.BANDS succeeds in every state; it appends for
each band, in order, the positioning bytes after as many advances as bands came before it, the bit-image
header and the band's slice of RB; SYL and SYH end at the last band's position, and nothing else changes
but ERR. -/
def Obligations.FrameBandsEmitsEveryBand : Prop :=
  ∀ s : State, ∃ wl wh : Byte, wl.toNat = s.rbW.toNat % 256 ∧ wh.toNat = s.rbW.toNat / 256 ∧
    exec .frameBands s = .next { s with
      out := s.out ++ (List.range (s.rbH.toNat / 24)).flatMap fun b =>
        posBytes (advanceY^[b] s) ++ (s.cfg.bimgPrefix ++ [s.cfg.bimgMode, wl, wh]) ++
          (s.rb.drop (b * (3 * s.rbW.toNat))).take (3 * s.rbW.toNat)
      syl := (advanceY^[s.rbH.toNat / 24 - 1] s).syl
      syh := (advanceY^[s.rbH.toNat / 24 - 1] s).syh
      err := 0 }

/-- R155, R150: FRAME.BANDS appends nb * (10 + len(BIMG_PREFIX) + 3 + 3 * RB_W) bytes: every slice lies
inside RB. -/
def Obligations.FrameBandsAppendedLength : Prop :=
  ∀ s t : State, s.Inv → exec .frameBands s = .next t →
    ∃ frames, t.out = s.out ++ frames ∧
      frames.length = s.rbH.toNat / 24 * (10 + s.cfg.bimgPrefix.length + 3 + 3 * s.rbW.toNat)

/-- R152, R155: of the start-Y accumulator only the low byte is ever seen: two states that differ only in
a multiple of 256 in SYH emit the same bytes by SET.AREA and FRAME.BANDS. -/
def Obligations.OnlyLowByteOfSyhIsEmitted : Prop :=
  ∀ (s : State) (y : Half) (i : Instr), y.toNat % 256 = s.syh.toNat % 256 → i = .setArea ∨ i = .frameBands →
    ∃ t u, exec i s = .next t ∧ exec i { s with syh := y } = .next u ∧ u.out = t.out

/-- The raster path whole (R105 to R107, R150 to R155; decisions D15 and D18 to D21 of the spec): RAST.BAND
and then FRAME.BANDS append, for each whole band of the grid, the position, the header with the effective
width as a little-endian pair, and the band's pixels packed column by column, three bytes a column, topmost
row in bit 7. -/
def Obligations.RastBandThenFrameBands : Prop :=
  ∀ s : State, ∃ t u, exec .rastBand s = .next t ∧ exec .frameBands t = .next u ∧
    ∃ chunks : List (List Byte), u.out = s.out ++ chunks.flatten ∧ chunks.length = s.h.toNat / 24 ∧
      ∀ i, i < s.h.toNat / 24 → ∃ chunk, chunks[i]? = some chunk ∧
        chunk.take 10 = posBytes (advanceY^[i] s) ∧
        (∃ wl wh : Byte, wl.toNat = 8 * (s.w.toNat / 8) % 256 ∧ wh.toNat = 8 * (s.w.toNat / 8) / 256 ∧
          (chunk.drop 10).take (s.cfg.bimgPrefix.length + 3) =
            s.cfg.bimgPrefix ++ [s.cfg.bimgMode, wl, wh]) ∧
        chunk.length = 13 + s.cfg.bimgPrefix.length + 3 * (8 * (s.w.toNat / 8)) ∧
        ∀ j k, j < 8 * (s.w.toNat / 8) → k < 3 →
          ∃ byte, chunk[13 + s.cfg.bimgPrefix.length + 3 * j + k]? = some byte ∧
            ∀ r, r < 8 → byte.getLsbD (7 - r) = s.cell (24 * i + 8 * k + r) j

/-! ### What operations read and write -/

/-- R62, the writes, with R15, R16, R21, R23: an operation changes no register outside its list, never
GRID, PAY or the model's own fields; a rasterizing operation leaves OUT as it was; any other leaves RB as
it was and every byte already in OUT. -/
def Obligations.OperationsWriteOnlyWhatIsListed : Prop :=
  ∀ (i : Instr) (s t : State), exec i s = .next t →
    (∀ r, r ∉ writtenRegs i → readReg r t = readReg r s) ∧
    t.grid = s.grid ∧ t.pay = s.pay ∧ t.cfg = s.cfg ∧ t.script = s.script ∧ t.reads = s.reads ∧
    t.sunk = s.sunk ∧
    (rasterizes i = true → t.out = s.out) ∧
    (rasterizes i = false → t.rb = s.rb ∧ ∀ n, n < s.out.length → t.out[n]? = s.out[n]?)

/-- R62, the reads: two states that agree on what an operation reads get from it the same ERR, the same
written registers, the same raster block and the same appended bytes. -/
def Obligations.OperationsReadOnlyWhatIsListed : Prop :=
  ∀ (i : Instr) (a b ta tb : State), sameReads i a b → exec i a = .next ta → exec i b = .next tb →
    (∀ r ∈ writtenRegs i, readReg r ta = readReg r tb) ∧
    (rasterizes i = true → ta.rb = tb.rb) ∧
    ∃ bytes, ta.out = a.out ++ bytes ∧ tb.out = b.out ++ bytes

/-- R51: no operation depends on how much of OUT the sink has consumed: consuming before an operation or
after it comes to the same. -/
def Obligations.SinkProgressDoesNotMatter : Prop :=
  ∀ (i : Instr) (s t : State) (n : Nat), exec i s = .next t → n ≤ s.out.length →
    exec i (s.sinkTake n) = .next (t.sinkTake n)

/-! ### The whole machine -/

/-- The invariant holds at reset. -/
def Obligations.ResetMeetsTheInvariant : Prop := State.reset.Inv

/-- Every step keeps the invariant (R15, R16, R21, R22, R181): the memories keep their shape, the raster
block its size, ERR a legal code, the header pairs their range, the configuration its constraints. -/
def Obligations.EveryStepKeepsTheInvariant : Prop :=
  ∀ s t : State, s.Inv → step s = .next t → t.Inv

/-- R23, R48, R211, R213 (that consumed bytes are kept is log 8): apart from hardware reset, no step
removes, reorders or changes a byte already emitted, whether or not the sink has consumed it. -/
def Obligations.EmittedBytesAreFinal : Prop :=
  ∀ s t : State, step s = .next t → (∀ rest, s.script ≠ .hardReset :: rest) →
    ∃ bytes, t.emitted = s.emitted ++ bytes

/-- R15, R16: W, H and GRID change only by LoadGrid and reset, PLEN and PAY only by LoadPayload and reset;
no step changes the configuration. -/
def Obligations.InputsChangeOnlyByLoads : Prop :=
  ∀ s t : State, step s = .next t →
    t.cfg = s.cfg ∧
    ((∀ rest, s.script ≠ .hardReset :: rest) →
      ((∀ w h cells rest, s.script ≠ .loadGrid w h cells :: rest) →
        t.w = s.w ∧ t.h = s.h ∧ t.grid = s.grid) ∧
      ((∀ bytes rest, s.script ≠ .loadPayload bytes :: rest) → t.plen = s.plen ∧ t.pay = s.pay))

/-- R191: with an empty script, or a next action the interface accepts, the step answers a next state:
the machine is never stuck and never faults. -/
def Obligations.AcceptedActionsArePerformed : Prop :=
  ∀ s : State, (∀ a rest, s.script = a :: rest → Accepted a s) → ∃ t, step s = .next t

/-- R28: after reset every register reads 0 and every memory is empty. -/
def Obligations.ResetState : Prop :=
  (∀ r, readReg r State.reset = 0) ∧ State.reset.grid = [] ∧ State.reset.pay = [] ∧
  State.reset.rb = [] ∧ State.reset.out = []

/-- R200: hardware reset from any state leaves every register 0 and every memory empty and emits nothing;
what stands outside the block is kept (the model's choice, log 9). -/
def Obligations.HardwareReset : Prop :=
  ∀ (s : State) (rest : List Action), s.script = .hardReset :: rest →
    ∃ t, step s = .next t ∧ (∀ r, readReg r t = 0) ∧ t.grid = [] ∧ t.pay = [] ∧ t.rb = [] ∧ t.out = [] ∧
      t.cfg = s.cfg ∧ t.script = rest ∧ t.reads = s.reads ∧ t.sunk = s.sunk

/-- R203: what every operation does straight after reset, in any configuration that meets its
constraints. -/
def Obligations.OperationsStraightAfterReset : Prop :=
  ∀ c : Config, c.wf = true →
    let s := { State.reset with cfg := c }
    exec .rastSimple s = .next s ∧ exec .rastBand s = .next s ∧ exec .frameBands s = .next s ∧
    exec .barcode s = .next { s with out := [0x1D, 0x6B, 0x00, 0x00] } ∧
    exec .setArea s = .next { s with out := [0x1B, 0x57, 0, 0, 0, 0, 0, 0, 0, 0] } ∧
    exec .prnReset s = .next { s with out := [0x1B, 0x40] } ∧
    exec .cutFull s = .next { s with out := [0x1D, 0x56, 0x41, 0x00] } ∧
    exec .cutPartial s = .next { s with out := [0x1D, 0x56, 0x01] } ∧
    ∃ tLow : Byte, tLow.toNat = 2 + c.qrPrintTail.length ∧
      exec .qrcode s = .next { s with out :=
        [0x1D, 0x28, 0x6B, 0x04, 0x00, c.qrCn, c.qrFnModel, c.qrModelByte0, c.qrModelSub] ++
        [0x1D, 0x28, 0x6B, 0x03, 0x00, c.qrCn, c.qrFnSize, 0x01] ++
        [0x1D, 0x28, 0x6B, 0x03, 0x00, c.qrCn, c.qrFnEc, c.qrEcLo] ++
        [0x1D, 0x28, 0x6B, 0x03, 0x00, c.qrCn, c.qrFnStore, c.qrStoreM] ++
        ([0x1D, 0x28, 0x6B, tLow, 0x00, c.qrCn, c.qrFnPrint] ++ c.qrPrintTail) }

/-- R193: with no action left the block stays idle and all state survives (log 2). -/
def Obligations.IdleStepChangesNothing : Prop :=
  ∀ s : State, s.script = [] → step s = .next s

/-! ### The host interface -/

/-- R27, LoadGrid: dimensions and every cell are set together, nothing else changes. -/
def Obligations.LoadGridSetsTheGrid : Prop :=
  ∀ (s : State) (w h : Half) (cells : List (List Bool)) (rest : List Action),
    s.script = .loadGrid w h cells :: rest → gridShape w.toNat h.toNat cells = true →
    (∀ n, s.cfg.gridCap = some n → w.toNat * h.toNat ≤ n) →
    step s = .next { s with script := rest, w := w, h := h, grid := cells } ∧
    ∀ r c, r < h.toNat → c < w.toNat → ∃ row, cells[r]? = some row ∧ row[c]? = some (cellAt cells r c)

/-- R27, LoadPayload: at most 65535 bytes are stored with their count, nothing else changes. -/
def Obligations.LoadPayloadSetsThePayload : Prop :=
  ∀ (s : State) (bytes : List Byte) (rest : List Action), s.script = .loadPayload bytes :: rest →
    bytes.length ≤ 65535 →
    ∃ t, step s = .next t ∧ t.plen.toNat = bytes.length ∧ t.pay = bytes ∧
      t = { s with script := rest, plen := t.plen, pay := bytes }

/-- R27, WriteReg of a host-writable register other than CMD: the register then reads as the value (of
QMODEL, as its bit 0), and no other register, no memory and nothing else changes. -/
def Obligations.WriteRegStoresTheValue : Prop :=
  ∀ (s : State) (r : Reg) (v : Half) (rest : List Action),
    s.script = .writeReg (regNumber r) v :: rest → hostWritable r = true → r ≠ .cmd →
    (r ≠ .qmodel → v.toNat < 2 ^ regWidth r) →
    ∃ t, step s = .next t ∧ (r ≠ .qmodel → readReg r t = v) ∧
      (r = .qmodel → (readReg r t).toNat = v.toNat % 2) ∧
      (∀ q, q ≠ r → readReg q t = readReg q s) ∧ sameOutside t s ∧ t.script = rest

/-- R27, ReadReg and ReadRB: the value is returned (here: recorded) and the block does not change. -/
def Obligations.ReadsReturnWithoutSideEffect : Prop :=
  ∀ (s : State) (rest : List Action),
    (∀ r, s.script = .readReg (regNumber r) :: rest → r ≠ .cmd →
      step s = .next { s with script := rest, reads := s.reads ++ [.reg (regNumber r) (readReg r s)] }) ∧
    (∀ i, s.script = .readRB i :: rest → i < s.rb.length →
      ∃ b, s.rb[i]? = some b ∧
        step s = .next { s with script := rest, reads := s.reads ++ [.rb i b] })

/-- R27: the sink's only action, consuming bytes from the front of OUT; here the consumed bytes are kept
(log 8), and nothing else changes. -/
def Obligations.SinkConsumesFromTheFront : Prop :=
  ∀ (s : State) (n : Nat) (rest : List Action), s.script = .sinkTake n :: rest → n ≤ s.out.length →
    ∃ taken left, s.out = taken ++ left ∧ taken.length = n ∧
      step s = .next { s with script := rest, out := left, sunk := s.sunk ++ taken }

/-- R27, R191 (c): what the interface refuses, each by its own name; the last two clauses refuse what R12
and R27 cannot express, which is the model's choice (log 10). -/
def Obligations.RefusedHostActions : Prop :=
  ∀ (s : State) (rest : List Action),
    (∀ w h cells n, s.script = .loadGrid w h cells :: rest → gridShape w.toNat h.toNat cells = true →
      s.cfg.gridCap = some n → n < w.toNat * h.toNat → step s = .refused .gridTooLarge) ∧
    (∀ bytes, s.script = .loadPayload bytes :: rest → 65535 < bytes.length →
      step s = .refused .payloadTooLarge) ∧
    (∀ n v, s.script = .writeReg n v :: rest → 0x17 < n.toNat → step s = .refused .noSuchRegister) ∧
    (∀ n, s.script = .readReg n :: rest → 0x17 < n.toNat → step s = .refused .noSuchRegister) ∧
    (∀ r v, s.script = .writeReg (regNumber r) v :: rest → hostWritable r = false →
      step s = .refused .notHostWritable) ∧
    (s.script = .readReg (regNumber .cmd) :: rest → step s = .refused .notHostReadable) ∧
    (∀ i, s.script = .readRB i :: rest → s.rb.length ≤ i → step s = .refused .rbIndexOutOfRange) ∧
    (∀ r v, s.script = .writeReg (regNumber r) v :: rest → hostWritable r = true → r ≠ .qmodel →
      2 ^ regWidth r ≤ v.toNat → step s = .refused .valueTooWide) ∧
    (∀ w h cells, s.script = .loadGrid w h cells :: rest → gridShape w.toNat h.toNat cells = false →
      step s = .refused .malformedGrid)

/-- R12: each of the numbers 0x00 to 0x17 names exactly one register, and no other number names one. -/
def Obligations.RegisterNumbersNameRegisters : Prop :=
  (∀ r, regOfNumber (regNumber r) = some r) ∧
  (∀ n : Byte, n.toNat ≤ 0x17 → ∃ r, regOfNumber n = some r ∧ regNumber r = n) ∧
  (∀ n : Byte, 0x17 < n.toNat → regOfNumber n = none)

/-! ### The front end, outside the block -/

/-- R92: compositing at alpha 0 gives white whatever the colour, at alpha 255 leaves the colour as it is;
alpha always ends at 255. -/
def Obligations.CompositeAtTheEnds : Prop :=
  ∀ p : Pixel,
    (p.alpha = 0 → composite p = ⟨255, 255, 255, 255⟩) ∧
    (p.alpha = 255 → composite p = p)

/-- R93 and R94 (the exact comparison is decision D29 of the spec; what may be assumed of another is
DEDUCED, log 15): the reference threshold is black exactly below 128, so white at 128, and every comparison
that follows R93 gives the same bit for every colour whose exact luminance is not 128. -/
def Obligations.ThresholdAwayFromTheTie : Prop :=
  followsR93 frontEndRef ∧
  (∀ p : Pixel, threshold frontEndRef p = true ↔
    299 * p.red.toNat + 587 * p.green.toNat + 114 * p.blue.toNat < 128000) ∧
  ∀ c : FrontEndConfig, followsR93 c → ∀ p : Pixel,
    299 * p.red.toNat + 587 * p.green.toNat + 114 * p.blue.toNat ≠ 128000 →
      threshold c p = threshold frontEndRef p

/-- R96: under any configured comparison the front end's grid has the picture's shape and holds the
thresholded composite of each pixel, so LoadGrid accepts it in an unbounded configuration. -/
def Obligations.FrontEndGridIsLoadable : Prop :=
  ∀ (c : FrontEndConfig) (picture : List (List Pixel)) (w h : Half) (s : State) (rest : List Action),
    picture.length = h.toNat → (∀ row ∈ picture, row.length = w.toNat) → s.cfg.gridCap = none →
    s.script = .loadGrid w h (frontEnd c picture) :: rest →
    ∃ t, step s = .next t ∧ t.w = w ∧ t.h = h ∧
      ∀ i j row p, picture[i]? = some row → row[j]? = some p → t.cell i j = threshold c (composite p)
end

