-- ==== Sys2Proof/Laws/Bits.lean ====
section
/-! SUPPORT. What the arithmetic of Machine/Bits.lean computes: values of bytes, bounds, and the bits of a
packed byte. -/

namespace Sys2Proof.Machine

@[simp] theorem lo8_toNat (v : Nat) : (lo8 v).toNat = v % 256 := by simp [lo8]

theorem hi8_toNat (v : Nat) : (hi8 v).toNat = v / 256 % 256 := by simp [hi8]

theorem hi8_toNat_of_lt {v : Nat} (h : v < 65536) : (hi8 v).toNat = v / 256 := by
  rw [hi8_toNat]; omega

@[simp] theorem pair16_length (v : Nat) : (pair16 v).length = 2 := rfl

/-- The value a little-endian pair stands for. -/
theorem pair16_value {v : Nat} (h : v < 65536) : (lo8 v).toNat + 256 * (hi8 v).toNat = v := by
  rw [lo8_toNat, hi8_toNat_of_lt h]; omega

theorem floorTo_le (n v : Nat) : floorTo n v ≤ v := Nat.mul_div_le v n

theorem floorTo_mod (n v : Nat) : floorTo n v % n = 0 := by simp [floorTo]

theorem clamp_eq_max_min (lo hi v : Nat) (h : lo ≤ hi) : clamp lo hi v = max lo (min hi v) := by
  unfold clamp; split <;> [skip; split] <;> omega

/-- The bits of a packed byte (R43): pixel `k` of the run is bit `7 - k`. -/
theorem packByte_bit (px : Nat → Bool) {k : Nat} (hk : k < 8) : (packByte px).getLsbD (7 - k) = px k := by
  have e : (List.range 8).map (fun k => (px k).toNat * 2 ^ (7 - k)) =
      [(px 0).toNat * 128, (px 1).toNat * 64, (px 2).toNat * 32, (px 3).toNat * 16,
       (px 4).toNat * 8, (px 5).toNat * 4, (px 6).toNat * 2, (px 7).toNat * 1] := rfl
  unfold packByte
  rw [e]
  have all : ∀ a b c d e f g h : Bool,
      (BitVec.ofNat 8 [a.toNat * 128, b.toNat * 64, c.toNat * 32, d.toNat * 16,
        e.toNat * 8, f.toNat * 4, g.toNat * 2, h.toNat * 1].sum) =
      BitVec.ofBoolListBE [a, b, c, d, e, f, g, h] := by decide
  rw [all]
  have bits : ∀ a b c d e f g h : Bool, ∀ k : Fin 8,
      (BitVec.ofBoolListBE [a, b, c, d, e, f, g, h]).getLsbD (7 - k.val) =
        [a, b, c, d, e, f, g, h].getD k.val false := by decide
  rw [bits _ _ _ _ _ _ _ _ ⟨k, hk⟩]
  interval_cases k <;> rfl

theorem packByte_congr {px qx : Nat → Bool} (h : ∀ k, k < 8 → px k = qx k) : packByte px = packByte qx := by
  unfold packByte
  congr 2
  exact List.map_congr_left fun k hk => by rw [h k (List.mem_range.mp hk)]

/-- A cell of a grid of the right shape is in its list of rows. -/
theorem cellAt_get {w h : Nat} {g : List (List Bool)} (hg : gridShape w h g = true) {r c : Nat}
    (hr : r < h) (hc : c < w) : ∃ row, g[r]? = some row ∧ row[c]? = some (cellAt g r c) := by
  simp only [gridShape, Bool.and_eq_true, beq_iff_eq, List.all_eq_true] at hg
  have hr' : r < g.length := hg.1 ▸ hr
  have hc' : c < (g[r]).length := (hg.2 _ (List.getElem_mem hr')) ▸ hc
  exact ⟨g[r], List.getElem?_eq_getElem hr', by
    simp [cellAt, List.getD_eq_getElem?_getD, List.getElem?_eq_getElem hr', List.getElem?_eq_getElem hc']⟩

end Sys2Proof.Machine
end

