-- ==== Sys2Proof/Laws/Decode.lean ====
section
/-! SUPPORT. The request decoder: the table's rows do not overlap, and a byte decodes exactly as R61 says. -/

namespace Sys2Proof

/-- No byte is of two rows of the op-select table. -/
theorem opSelTable_no_overlap :
    opSelTable.Pairwise fun a b => (a.pattern ^^^ b.pattern) &&& a.mask &&& b.mask ≠ 0 := by decide

/-- The code of an operation decodes to it, with whatever bytes follow. -/
@[simp] theorem decode_opSelCode (i : Instr) (rest : List Byte) :
    decode (opSelCode i :: rest) = .instr i rest := by cases i <;> rfl

/-- What decoding one byte can answer: an operation, whose code it is, or the rejection of an illegal code. -/
theorem decode_byte_cases (b : Byte) (rest : List Byte) :
    (∃ i, decode (b :: rest) = .instr i rest ∧ opSelCode i = b) ∨
      (decode (b :: rest) = .rejected (.illegalOpSelect b) ∧ ∀ i, opSelCode i ≠ b) := by
  have table : ∀ b : Byte,
      (∃ row ∈ opSelTable, opSelTable.find? (fun row => row.matchesByte b) = some row ∧
        opSelCode row.instr = b) ∨
      (opSelTable.find? (fun row => row.matchesByte b) = none ∧ ∀ i ∈ Instr.all, opSelCode i ≠ b) := by
    decide
  rcases table b with ⟨row, -, hf, hc⟩ | ⟨hf, hc⟩
  · exact .inl ⟨row.instr, by simp [decode, hf], hc⟩
  · exact .inr ⟨by simp [decode, hf], fun i => hc i (by cases i <;> decide)⟩

/-- The nine codes are the codes of the operations. -/
theorem mem_codes_iff (b : Byte) :
    b ∈ ([0x01, 0x02, 0x10, 0x11, 0x12, 0x13, 0x20, 0x21, 0x22] : List Byte) ↔ ∃ i, opSelCode i = b := by
  constructor
  · intro h
    have all : ∀ b ∈ ([0x01, 0x02, 0x10, 0x11, 0x12, 0x13, 0x20, 0x21, 0x22] : List Byte),
        ∃ i ∈ Instr.all, opSelCode i = b := by decide
    obtain ⟨i, -, hi⟩ := all b h
    exact ⟨i, hi⟩
  · rintro ⟨i, rfl⟩
    cases i <;> decide

end Sys2Proof
end

