-- ==== Sys2Proof/Laws/Flags.lean ====
section
/-! SUPPORT. The data-dependent choices as propositions on the registers. -/

namespace Sys2Proof.Machine

variable (s : State)

@[simp] theorem nulFramed_iff : nulFramed s = true ↔ s.sym.toNat < 69 := decide_eq_true_iff

@[simp] theorem nulFramed_eq_false_iff : nulFramed s = false ↔ 69 ≤ s.sym.toNat := by
  rw [← Bool.not_eq_true, nulFramed_iff, Nat.not_lt]

@[simp] theorem lengthUnrepresentable_iff : lengthUnrepresentable s = true ↔ 255 < s.plen.toNat :=
  decide_eq_true_iff

@[simp] theorem lengthUnrepresentable_eq_false_iff :
    lengthUnrepresentable s = false ↔ s.plen.toNat ≤ 255 := by
  rw [← Bool.not_eq_true, lengthUnrepresentable_iff, Nat.not_lt]

@[simp] theorem payloadTooLong_iff : payloadTooLong s = true ↔ 7089 < s.plen.toNat := decide_eq_true_iff

@[simp] theorem payloadTooLong_eq_false_iff : payloadTooLong s = false ↔ s.plen.toNat ≤ 7089 := by
  rw [← Bool.not_eq_true, payloadTooLong_iff, Nat.not_lt]

@[simp] theorem yOverflow_iff : yOverflow s = true ↔ 255 < s.syl.toNat + s.inc.toNat := decide_eq_true_iff

end Sys2Proof.Machine
end

