-- ==== Sys2Proof/Laws/Registers.lean ====
section
/-! SUPPORT. The register table: numbers, and what a host write changes. -/

namespace Sys2Proof.Machine

@[simp] theorem regOfNumber_regNumber (r : Reg) : regOfNumber (regNumber r) = some r := by
  cases r <;> decide

theorem mem_allRegs (r : Reg) : r ∈ allRegs := by cases r <;> decide

@[simp] theorem readReg_cmd (s : State) : readReg .cmd s = 0 := rfl

/-- A register reads as zeros above its width. -/
theorem readReg_lt (r : Reg) (s : State) : (readReg r s).toNat < 2 ^ regWidth r := by
  cases r <;> simp only [readReg, regWidth, BitVec.toNat_setWidth] <;>
    first
      | decide
      | exact BitVec.isLt _
      | exact lt_of_le_of_lt (Nat.mod_le _ _) (BitVec.isLt _)

/-- Every register reads 0 where every register field is 0. -/
theorem readReg_reset (r : Reg) : readReg r State.reset = 0 := by cases r <;> rfl

section
variable (r : Reg) (v : Half) (s : State)

@[simp] theorem writeReg_grid : (writeReg r v s).grid = s.grid := by cases r <;> rfl
@[simp] theorem writeReg_pay : (writeReg r v s).pay = s.pay := by cases r <;> rfl
@[simp] theorem writeReg_rb : (writeReg r v s).rb = s.rb := by cases r <;> rfl
@[simp] theorem writeReg_out : (writeReg r v s).out = s.out := by cases r <;> rfl
@[simp] theorem writeReg_cfg : (writeReg r v s).cfg = s.cfg := by cases r <;> rfl
@[simp] theorem writeReg_script : (writeReg r v s).script = s.script := by cases r <;> rfl
@[simp] theorem writeReg_reads : (writeReg r v s).reads = s.reads := by cases r <;> rfl
@[simp] theorem writeReg_sunk : (writeReg r v s).sunk = s.sunk := by cases r <;> rfl
@[simp] theorem writeReg_err : (writeReg r v s).err = s.err := by cases r <;> rfl
@[simp] theorem writeReg_w : (writeReg r v s).w = s.w := by cases r <;> rfl
@[simp] theorem writeReg_h : (writeReg r v s).h = s.h := by cases r <;> rfl
@[simp] theorem writeReg_plen : (writeReg r v s).plen = s.plen := by cases r <;> rfl
@[simp] theorem writeReg_rbW : (writeReg r v s).rbW = s.rbW := by cases r <;> rfl
@[simp] theorem writeReg_rbH : (writeReg r v s).rbH = s.rbH := by cases r <;> rfl
@[simp] theorem writeReg_hxl : (writeReg r v s).hxl = s.hxl := by cases r <;> rfl
@[simp] theorem writeReg_hxh : (writeReg r v s).hxh = s.hxh := by cases r <;> rfl
@[simp] theorem writeReg_hyl : (writeReg r v s).hyl = s.hyl := by cases r <;> rfl
@[simp] theorem writeReg_hyh : (writeReg r v s).hyh = s.hyh := by cases r <;> rfl

end

/-- A host write leaves the other registers alone. -/
theorem readReg_writeReg_of_ne {q r : Reg} (h : q ≠ r) (v : Half) (s : State) :
    readReg q (writeReg r v s) = readReg q s := by
  cases r <;> cases q <;> first | rfl | exact absurd rfl h

/-- The bits a host write keeps are what the register then reads as. -/
theorem readReg_writeReg {r : Reg} (h : hostWritable r = true) (hc : r ≠ .cmd) (v : Half) (s : State) :
    (readReg r (writeReg r v s)).toNat = v.toNat % 2 ^ regWidth r := by
  have := v.isLt
  cases r <;> simp_all [hostWritable, readReg, writeReg, regWidth] <;> omega

end Sys2Proof.Machine
end

