-- ==== Sys2Proof/Laws/State.lean ====
section
/-! SUPPORT. One lemma per field of State per update of Machine/Ops.lean, each true by rfl. -/

namespace Sys2Proof.Machine.State

variable (s : State)

/-! #### emit -/

@[simp] theorem emit_err (bs : List Byte) : (s.emit bs).err = s.err := rfl
@[simp] theorem emit_w (bs : List Byte) : (s.emit bs).w = s.w := rfl
@[simp] theorem emit_h (bs : List Byte) : (s.emit bs).h = s.h := rfl
@[simp] theorem emit_plen (bs : List Byte) : (s.emit bs).plen = s.plen := rfl
@[simp] theorem emit_sym (bs : List Byte) : (s.emit bs).sym = s.sym := rfl
@[simp] theorem emit_qmodel (bs : List Byte) : (s.emit bs).qmodel = s.qmodel := rfl
@[simp] theorem emit_qsize (bs : List Byte) : (s.emit bs).qsize = s.qsize := rfl
@[simp] theorem emit_qec (bs : List Byte) : (s.emit bs).qec = s.qec := rfl
@[simp] theorem emit_sxl (bs : List Byte) : (s.emit bs).sxl = s.sxl := rfl
@[simp] theorem emit_sxh (bs : List Byte) : (s.emit bs).sxh = s.sxh := rfl
@[simp] theorem emit_syl (bs : List Byte) : (s.emit bs).syl = s.syl := rfl
@[simp] theorem emit_syh (bs : List Byte) : (s.emit bs).syh = s.syh := rfl
@[simp] theorem emit_exl (bs : List Byte) : (s.emit bs).exl = s.exl := rfl
@[simp] theorem emit_exh (bs : List Byte) : (s.emit bs).exh = s.exh := rfl
@[simp] theorem emit_eyl (bs : List Byte) : (s.emit bs).eyl = s.eyl := rfl
@[simp] theorem emit_eyh (bs : List Byte) : (s.emit bs).eyh = s.eyh := rfl
@[simp] theorem emit_inc (bs : List Byte) : (s.emit bs).inc = s.inc := rfl
@[simp] theorem emit_rbW (bs : List Byte) : (s.emit bs).rbW = s.rbW := rfl
@[simp] theorem emit_rbH (bs : List Byte) : (s.emit bs).rbH = s.rbH := rfl
@[simp] theorem emit_hxl (bs : List Byte) : (s.emit bs).hxl = s.hxl := rfl
@[simp] theorem emit_hxh (bs : List Byte) : (s.emit bs).hxh = s.hxh := rfl
@[simp] theorem emit_hyl (bs : List Byte) : (s.emit bs).hyl = s.hyl := rfl
@[simp] theorem emit_hyh (bs : List Byte) : (s.emit bs).hyh = s.hyh := rfl
@[simp] theorem emit_grid (bs : List Byte) : (s.emit bs).grid = s.grid := rfl
@[simp] theorem emit_pay (bs : List Byte) : (s.emit bs).pay = s.pay := rfl
@[simp] theorem emit_rb (bs : List Byte) : (s.emit bs).rb = s.rb := rfl
@[simp] theorem emit_out (bs : List Byte) : (s.emit bs).out = s.out ++ bs := rfl
@[simp] theorem emit_cfg (bs : List Byte) : (s.emit bs).cfg = s.cfg := rfl
@[simp] theorem emit_script (bs : List Byte) : (s.emit bs).script = s.script := rfl
@[simp] theorem emit_reads (bs : List Byte) : (s.emit bs).reads = s.reads := rfl
@[simp] theorem emit_sunk (bs : List Byte) : (s.emit bs).sunk = s.sunk := rfl

/-! #### succeed -/

@[simp] theorem succeed_err : (s.succeed).err = 0 := rfl
@[simp] theorem succeed_w : (s.succeed).w = s.w := rfl
@[simp] theorem succeed_h : (s.succeed).h = s.h := rfl
@[simp] theorem succeed_plen : (s.succeed).plen = s.plen := rfl
@[simp] theorem succeed_sym : (s.succeed).sym = s.sym := rfl
@[simp] theorem succeed_qmodel : (s.succeed).qmodel = s.qmodel := rfl
@[simp] theorem succeed_qsize : (s.succeed).qsize = s.qsize := rfl
@[simp] theorem succeed_qec : (s.succeed).qec = s.qec := rfl
@[simp] theorem succeed_sxl : (s.succeed).sxl = s.sxl := rfl
@[simp] theorem succeed_sxh : (s.succeed).sxh = s.sxh := rfl
@[simp] theorem succeed_syl : (s.succeed).syl = s.syl := rfl
@[simp] theorem succeed_syh : (s.succeed).syh = s.syh := rfl
@[simp] theorem succeed_exl : (s.succeed).exl = s.exl := rfl
@[simp] theorem succeed_exh : (s.succeed).exh = s.exh := rfl
@[simp] theorem succeed_eyl : (s.succeed).eyl = s.eyl := rfl
@[simp] theorem succeed_eyh : (s.succeed).eyh = s.eyh := rfl
@[simp] theorem succeed_inc : (s.succeed).inc = s.inc := rfl
@[simp] theorem succeed_rbW : (s.succeed).rbW = s.rbW := rfl
@[simp] theorem succeed_rbH : (s.succeed).rbH = s.rbH := rfl
@[simp] theorem succeed_hxl : (s.succeed).hxl = s.hxl := rfl
@[simp] theorem succeed_hxh : (s.succeed).hxh = s.hxh := rfl
@[simp] theorem succeed_hyl : (s.succeed).hyl = s.hyl := rfl
@[simp] theorem succeed_hyh : (s.succeed).hyh = s.hyh := rfl
@[simp] theorem succeed_grid : (s.succeed).grid = s.grid := rfl
@[simp] theorem succeed_pay : (s.succeed).pay = s.pay := rfl
@[simp] theorem succeed_rb : (s.succeed).rb = s.rb := rfl
@[simp] theorem succeed_out : (s.succeed).out = s.out := rfl
@[simp] theorem succeed_cfg : (s.succeed).cfg = s.cfg := rfl
@[simp] theorem succeed_script : (s.succeed).script = s.script := rfl
@[simp] theorem succeed_reads : (s.succeed).reads = s.reads := rfl
@[simp] theorem succeed_sunk : (s.succeed).sunk = s.sunk := rfl

/-! #### raise -/

@[simp] theorem raise_err (e : ErrorKind) : (s.raise e).err = errorCode e := rfl
@[simp] theorem raise_w (e : ErrorKind) : (s.raise e).w = s.w := rfl
@[simp] theorem raise_h (e : ErrorKind) : (s.raise e).h = s.h := rfl
@[simp] theorem raise_plen (e : ErrorKind) : (s.raise e).plen = s.plen := rfl
@[simp] theorem raise_sym (e : ErrorKind) : (s.raise e).sym = s.sym := rfl
@[simp] theorem raise_qmodel (e : ErrorKind) : (s.raise e).qmodel = s.qmodel := rfl
@[simp] theorem raise_qsize (e : ErrorKind) : (s.raise e).qsize = s.qsize := rfl
@[simp] theorem raise_qec (e : ErrorKind) : (s.raise e).qec = s.qec := rfl
@[simp] theorem raise_sxl (e : ErrorKind) : (s.raise e).sxl = s.sxl := rfl
@[simp] theorem raise_sxh (e : ErrorKind) : (s.raise e).sxh = s.sxh := rfl
@[simp] theorem raise_syl (e : ErrorKind) : (s.raise e).syl = s.syl := rfl
@[simp] theorem raise_syh (e : ErrorKind) : (s.raise e).syh = s.syh := rfl
@[simp] theorem raise_exl (e : ErrorKind) : (s.raise e).exl = s.exl := rfl
@[simp] theorem raise_exh (e : ErrorKind) : (s.raise e).exh = s.exh := rfl
@[simp] theorem raise_eyl (e : ErrorKind) : (s.raise e).eyl = s.eyl := rfl
@[simp] theorem raise_eyh (e : ErrorKind) : (s.raise e).eyh = s.eyh := rfl
@[simp] theorem raise_inc (e : ErrorKind) : (s.raise e).inc = s.inc := rfl
@[simp] theorem raise_rbW (e : ErrorKind) : (s.raise e).rbW = s.rbW := rfl
@[simp] theorem raise_rbH (e : ErrorKind) : (s.raise e).rbH = s.rbH := rfl
@[simp] theorem raise_hxl (e : ErrorKind) : (s.raise e).hxl = s.hxl := rfl
@[simp] theorem raise_hxh (e : ErrorKind) : (s.raise e).hxh = s.hxh := rfl
@[simp] theorem raise_hyl (e : ErrorKind) : (s.raise e).hyl = s.hyl := rfl
@[simp] theorem raise_hyh (e : ErrorKind) : (s.raise e).hyh = s.hyh := rfl
@[simp] theorem raise_grid (e : ErrorKind) : (s.raise e).grid = s.grid := rfl
@[simp] theorem raise_pay (e : ErrorKind) : (s.raise e).pay = s.pay := rfl
@[simp] theorem raise_rb (e : ErrorKind) : (s.raise e).rb = s.rb := rfl
@[simp] theorem raise_out (e : ErrorKind) : (s.raise e).out = s.out := rfl
@[simp] theorem raise_cfg (e : ErrorKind) : (s.raise e).cfg = s.cfg := rfl
@[simp] theorem raise_script (e : ErrorKind) : (s.raise e).script = s.script := rfl
@[simp] theorem raise_reads (e : ErrorKind) : (s.raise e).reads = s.reads := rfl
@[simp] theorem raise_sunk (e : ErrorKind) : (s.raise e).sunk = s.sunk := rfl

/-! #### setBlock -/

@[simp] theorem setBlock_err (bs : List Byte) (a b : Nat) : (s.setBlock bs a b).err = s.err := rfl
@[simp] theorem setBlock_w (bs : List Byte) (a b : Nat) : (s.setBlock bs a b).w = s.w := rfl
@[simp] theorem setBlock_h (bs : List Byte) (a b : Nat) : (s.setBlock bs a b).h = s.h := rfl
@[simp] theorem setBlock_plen (bs : List Byte) (a b : Nat) : (s.setBlock bs a b).plen = s.plen := rfl
@[simp] theorem setBlock_sym (bs : List Byte) (a b : Nat) : (s.setBlock bs a b).sym = s.sym := rfl
@[simp] theorem setBlock_qmodel (bs : List Byte) (a b : Nat) : (s.setBlock bs a b).qmodel = s.qmodel := rfl
@[simp] theorem setBlock_qsize (bs : List Byte) (a b : Nat) : (s.setBlock bs a b).qsize = s.qsize := rfl
@[simp] theorem setBlock_qec (bs : List Byte) (a b : Nat) : (s.setBlock bs a b).qec = s.qec := rfl
@[simp] theorem setBlock_sxl (bs : List Byte) (a b : Nat) : (s.setBlock bs a b).sxl = s.sxl := rfl
@[simp] theorem setBlock_sxh (bs : List Byte) (a b : Nat) : (s.setBlock bs a b).sxh = s.sxh := rfl
@[simp] theorem setBlock_syl (bs : List Byte) (a b : Nat) : (s.setBlock bs a b).syl = s.syl := rfl
@[simp] theorem setBlock_syh (bs : List Byte) (a b : Nat) : (s.setBlock bs a b).syh = s.syh := rfl
@[simp] theorem setBlock_exl (bs : List Byte) (a b : Nat) : (s.setBlock bs a b).exl = s.exl := rfl
@[simp] theorem setBlock_exh (bs : List Byte) (a b : Nat) : (s.setBlock bs a b).exh = s.exh := rfl
@[simp] theorem setBlock_eyl (bs : List Byte) (a b : Nat) : (s.setBlock bs a b).eyl = s.eyl := rfl
@[simp] theorem setBlock_eyh (bs : List Byte) (a b : Nat) : (s.setBlock bs a b).eyh = s.eyh := rfl
@[simp] theorem setBlock_inc (bs : List Byte) (a b : Nat) : (s.setBlock bs a b).inc = s.inc := rfl
@[simp] theorem setBlock_rbW (bs : List Byte) (a b : Nat) : (s.setBlock bs a b).rbW = BitVec.ofNat 16 a := rfl
@[simp] theorem setBlock_rbH (bs : List Byte) (a b : Nat) : (s.setBlock bs a b).rbH = BitVec.ofNat 16 b := rfl
@[simp] theorem setBlock_hxl (bs : List Byte) (a b : Nat) : (s.setBlock bs a b).hxl = s.hxl := rfl
@[simp] theorem setBlock_hxh (bs : List Byte) (a b : Nat) : (s.setBlock bs a b).hxh = s.hxh := rfl
@[simp] theorem setBlock_hyl (bs : List Byte) (a b : Nat) : (s.setBlock bs a b).hyl = s.hyl := rfl
@[simp] theorem setBlock_hyh (bs : List Byte) (a b : Nat) : (s.setBlock bs a b).hyh = s.hyh := rfl
@[simp] theorem setBlock_grid (bs : List Byte) (a b : Nat) : (s.setBlock bs a b).grid = s.grid := rfl
@[simp] theorem setBlock_pay (bs : List Byte) (a b : Nat) : (s.setBlock bs a b).pay = s.pay := rfl
@[simp] theorem setBlock_rb (bs : List Byte) (a b : Nat) : (s.setBlock bs a b).rb = bs := rfl
@[simp] theorem setBlock_out (bs : List Byte) (a b : Nat) : (s.setBlock bs a b).out = s.out := rfl
@[simp] theorem setBlock_cfg (bs : List Byte) (a b : Nat) : (s.setBlock bs a b).cfg = s.cfg := rfl
@[simp] theorem setBlock_script (bs : List Byte) (a b : Nat) : (s.setBlock bs a b).script = s.script := rfl
@[simp] theorem setBlock_reads (bs : List Byte) (a b : Nat) : (s.setBlock bs a b).reads = s.reads := rfl
@[simp] theorem setBlock_sunk (bs : List Byte) (a b : Nat) : (s.setBlock bs a b).sunk = s.sunk := rfl

/-! #### setHeader -/

@[simp] theorem setHeader_err (a b : Nat) : (s.setHeader a b).err = s.err := rfl
@[simp] theorem setHeader_w (a b : Nat) : (s.setHeader a b).w = s.w := rfl
@[simp] theorem setHeader_h (a b : Nat) : (s.setHeader a b).h = s.h := rfl
@[simp] theorem setHeader_plen (a b : Nat) : (s.setHeader a b).plen = s.plen := rfl
@[simp] theorem setHeader_sym (a b : Nat) : (s.setHeader a b).sym = s.sym := rfl
@[simp] theorem setHeader_qmodel (a b : Nat) : (s.setHeader a b).qmodel = s.qmodel := rfl
@[simp] theorem setHeader_qsize (a b : Nat) : (s.setHeader a b).qsize = s.qsize := rfl
@[simp] theorem setHeader_qec (a b : Nat) : (s.setHeader a b).qec = s.qec := rfl
@[simp] theorem setHeader_sxl (a b : Nat) : (s.setHeader a b).sxl = s.sxl := rfl
@[simp] theorem setHeader_sxh (a b : Nat) : (s.setHeader a b).sxh = s.sxh := rfl
@[simp] theorem setHeader_syl (a b : Nat) : (s.setHeader a b).syl = s.syl := rfl
@[simp] theorem setHeader_syh (a b : Nat) : (s.setHeader a b).syh = s.syh := rfl
@[simp] theorem setHeader_exl (a b : Nat) : (s.setHeader a b).exl = s.exl := rfl
@[simp] theorem setHeader_exh (a b : Nat) : (s.setHeader a b).exh = s.exh := rfl
@[simp] theorem setHeader_eyl (a b : Nat) : (s.setHeader a b).eyl = s.eyl := rfl
@[simp] theorem setHeader_eyh (a b : Nat) : (s.setHeader a b).eyh = s.eyh := rfl
@[simp] theorem setHeader_inc (a b : Nat) : (s.setHeader a b).inc = s.inc := rfl
@[simp] theorem setHeader_rbW (a b : Nat) : (s.setHeader a b).rbW = s.rbW := rfl
@[simp] theorem setHeader_rbH (a b : Nat) : (s.setHeader a b).rbH = s.rbH := rfl
@[simp] theorem setHeader_hxl (a b : Nat) : (s.setHeader a b).hxl = lo8 a := rfl
@[simp] theorem setHeader_hxh (a b : Nat) : (s.setHeader a b).hxh = hi8 a := rfl
@[simp] theorem setHeader_hyl (a b : Nat) : (s.setHeader a b).hyl = lo8 b := rfl
@[simp] theorem setHeader_hyh (a b : Nat) : (s.setHeader a b).hyh = hi8 b := rfl
@[simp] theorem setHeader_grid (a b : Nat) : (s.setHeader a b).grid = s.grid := rfl
@[simp] theorem setHeader_pay (a b : Nat) : (s.setHeader a b).pay = s.pay := rfl
@[simp] theorem setHeader_rb (a b : Nat) : (s.setHeader a b).rb = s.rb := rfl
@[simp] theorem setHeader_out (a b : Nat) : (s.setHeader a b).out = s.out := rfl
@[simp] theorem setHeader_cfg (a b : Nat) : (s.setHeader a b).cfg = s.cfg := rfl
@[simp] theorem setHeader_script (a b : Nat) : (s.setHeader a b).script = s.script := rfl
@[simp] theorem setHeader_reads (a b : Nat) : (s.setHeader a b).reads = s.reads := rfl
@[simp] theorem setHeader_sunk (a b : Nat) : (s.setHeader a b).sunk = s.sunk := rfl

/-! #### setStartY -/

@[simp] theorem setStartY_err (l : Byte) (y : Half) : (s.setStartY l y).err = s.err := rfl
@[simp] theorem setStartY_w (l : Byte) (y : Half) : (s.setStartY l y).w = s.w := rfl
@[simp] theorem setStartY_h (l : Byte) (y : Half) : (s.setStartY l y).h = s.h := rfl
@[simp] theorem setStartY_plen (l : Byte) (y : Half) : (s.setStartY l y).plen = s.plen := rfl
@[simp] theorem setStartY_sym (l : Byte) (y : Half) : (s.setStartY l y).sym = s.sym := rfl
@[simp] theorem setStartY_qmodel (l : Byte) (y : Half) : (s.setStartY l y).qmodel = s.qmodel := rfl
@[simp] theorem setStartY_qsize (l : Byte) (y : Half) : (s.setStartY l y).qsize = s.qsize := rfl
@[simp] theorem setStartY_qec (l : Byte) (y : Half) : (s.setStartY l y).qec = s.qec := rfl
@[simp] theorem setStartY_sxl (l : Byte) (y : Half) : (s.setStartY l y).sxl = s.sxl := rfl
@[simp] theorem setStartY_sxh (l : Byte) (y : Half) : (s.setStartY l y).sxh = s.sxh := rfl
@[simp] theorem setStartY_syl (l : Byte) (y : Half) : (s.setStartY l y).syl = l := rfl
@[simp] theorem setStartY_syh (l : Byte) (y : Half) : (s.setStartY l y).syh = y := rfl
@[simp] theorem setStartY_exl (l : Byte) (y : Half) : (s.setStartY l y).exl = s.exl := rfl
@[simp] theorem setStartY_exh (l : Byte) (y : Half) : (s.setStartY l y).exh = s.exh := rfl
@[simp] theorem setStartY_eyl (l : Byte) (y : Half) : (s.setStartY l y).eyl = s.eyl := rfl
@[simp] theorem setStartY_eyh (l : Byte) (y : Half) : (s.setStartY l y).eyh = s.eyh := rfl
@[simp] theorem setStartY_inc (l : Byte) (y : Half) : (s.setStartY l y).inc = s.inc := rfl
@[simp] theorem setStartY_rbW (l : Byte) (y : Half) : (s.setStartY l y).rbW = s.rbW := rfl
@[simp] theorem setStartY_rbH (l : Byte) (y : Half) : (s.setStartY l y).rbH = s.rbH := rfl
@[simp] theorem setStartY_hxl (l : Byte) (y : Half) : (s.setStartY l y).hxl = s.hxl := rfl
@[simp] theorem setStartY_hxh (l : Byte) (y : Half) : (s.setStartY l y).hxh = s.hxh := rfl
@[simp] theorem setStartY_hyl (l : Byte) (y : Half) : (s.setStartY l y).hyl = s.hyl := rfl
@[simp] theorem setStartY_hyh (l : Byte) (y : Half) : (s.setStartY l y).hyh = s.hyh := rfl
@[simp] theorem setStartY_grid (l : Byte) (y : Half) : (s.setStartY l y).grid = s.grid := rfl
@[simp] theorem setStartY_pay (l : Byte) (y : Half) : (s.setStartY l y).pay = s.pay := rfl
@[simp] theorem setStartY_rb (l : Byte) (y : Half) : (s.setStartY l y).rb = s.rb := rfl
@[simp] theorem setStartY_out (l : Byte) (y : Half) : (s.setStartY l y).out = s.out := rfl
@[simp] theorem setStartY_cfg (l : Byte) (y : Half) : (s.setStartY l y).cfg = s.cfg := rfl
@[simp] theorem setStartY_script (l : Byte) (y : Half) : (s.setStartY l y).script = s.script := rfl
@[simp] theorem setStartY_reads (l : Byte) (y : Half) : (s.setStartY l y).reads = s.reads := rfl
@[simp] theorem setStartY_sunk (l : Byte) (y : Half) : (s.setStartY l y).sunk = s.sunk := rfl

/-! #### loadGrid -/

@[simp] theorem loadGrid_err (a b : Half) (g : List (List Bool)) : (s.loadGrid a b g).err = s.err := rfl
@[simp] theorem loadGrid_w (a b : Half) (g : List (List Bool)) : (s.loadGrid a b g).w = a := rfl
@[simp] theorem loadGrid_h (a b : Half) (g : List (List Bool)) : (s.loadGrid a b g).h = b := rfl
@[simp] theorem loadGrid_plen (a b : Half) (g : List (List Bool)) : (s.loadGrid a b g).plen = s.plen := rfl
@[simp] theorem loadGrid_sym (a b : Half) (g : List (List Bool)) : (s.loadGrid a b g).sym = s.sym := rfl
@[simp] theorem loadGrid_qmodel (a b : Half) (g : List (List Bool)) : (s.loadGrid a b g).qmodel = s.qmodel := rfl
@[simp] theorem loadGrid_qsize (a b : Half) (g : List (List Bool)) : (s.loadGrid a b g).qsize = s.qsize := rfl
@[simp] theorem loadGrid_qec (a b : Half) (g : List (List Bool)) : (s.loadGrid a b g).qec = s.qec := rfl
@[simp] theorem loadGrid_sxl (a b : Half) (g : List (List Bool)) : (s.loadGrid a b g).sxl = s.sxl := rfl
@[simp] theorem loadGrid_sxh (a b : Half) (g : List (List Bool)) : (s.loadGrid a b g).sxh = s.sxh := rfl
@[simp] theorem loadGrid_syl (a b : Half) (g : List (List Bool)) : (s.loadGrid a b g).syl = s.syl := rfl
@[simp] theorem loadGrid_syh (a b : Half) (g : List (List Bool)) : (s.loadGrid a b g).syh = s.syh := rfl
@[simp] theorem loadGrid_exl (a b : Half) (g : List (List Bool)) : (s.loadGrid a b g).exl = s.exl := rfl
@[simp] theorem loadGrid_exh (a b : Half) (g : List (List Bool)) : (s.loadGrid a b g).exh = s.exh := rfl
@[simp] theorem loadGrid_eyl (a b : Half) (g : List (List Bool)) : (s.loadGrid a b g).eyl = s.eyl := rfl
@[simp] theorem loadGrid_eyh (a b : Half) (g : List (List Bool)) : (s.loadGrid a b g).eyh = s.eyh := rfl
@[simp] theorem loadGrid_inc (a b : Half) (g : List (List Bool)) : (s.loadGrid a b g).inc = s.inc := rfl
@[simp] theorem loadGrid_rbW (a b : Half) (g : List (List Bool)) : (s.loadGrid a b g).rbW = s.rbW := rfl
@[simp] theorem loadGrid_rbH (a b : Half) (g : List (List Bool)) : (s.loadGrid a b g).rbH = s.rbH := rfl
@[simp] theorem loadGrid_hxl (a b : Half) (g : List (List Bool)) : (s.loadGrid a b g).hxl = s.hxl := rfl
@[simp] theorem loadGrid_hxh (a b : Half) (g : List (List Bool)) : (s.loadGrid a b g).hxh = s.hxh := rfl
@[simp] theorem loadGrid_hyl (a b : Half) (g : List (List Bool)) : (s.loadGrid a b g).hyl = s.hyl := rfl
@[simp] theorem loadGrid_hyh (a b : Half) (g : List (List Bool)) : (s.loadGrid a b g).hyh = s.hyh := rfl
@[simp] theorem loadGrid_grid (a b : Half) (g : List (List Bool)) : (s.loadGrid a b g).grid = g := rfl
@[simp] theorem loadGrid_pay (a b : Half) (g : List (List Bool)) : (s.loadGrid a b g).pay = s.pay := rfl
@[simp] theorem loadGrid_rb (a b : Half) (g : List (List Bool)) : (s.loadGrid a b g).rb = s.rb := rfl
@[simp] theorem loadGrid_out (a b : Half) (g : List (List Bool)) : (s.loadGrid a b g).out = s.out := rfl
@[simp] theorem loadGrid_cfg (a b : Half) (g : List (List Bool)) : (s.loadGrid a b g).cfg = s.cfg := rfl
@[simp] theorem loadGrid_script (a b : Half) (g : List (List Bool)) : (s.loadGrid a b g).script = s.script := rfl
@[simp] theorem loadGrid_reads (a b : Half) (g : List (List Bool)) : (s.loadGrid a b g).reads = s.reads := rfl
@[simp] theorem loadGrid_sunk (a b : Half) (g : List (List Bool)) : (s.loadGrid a b g).sunk = s.sunk := rfl

/-! #### loadPayload -/

@[simp] theorem loadPayload_err (bs : List Byte) : (s.loadPayload bs).err = s.err := rfl
@[simp] theorem loadPayload_w (bs : List Byte) : (s.loadPayload bs).w = s.w := rfl
@[simp] theorem loadPayload_h (bs : List Byte) : (s.loadPayload bs).h = s.h := rfl
@[simp] theorem loadPayload_plen (bs : List Byte) : (s.loadPayload bs).plen = BitVec.ofNat 16 bs.length := rfl
@[simp] theorem loadPayload_sym (bs : List Byte) : (s.loadPayload bs).sym = s.sym := rfl
@[simp] theorem loadPayload_qmodel (bs : List Byte) : (s.loadPayload bs).qmodel = s.qmodel := rfl
@[simp] theorem loadPayload_qsize (bs : List Byte) : (s.loadPayload bs).qsize = s.qsize := rfl
@[simp] theorem loadPayload_qec (bs : List Byte) : (s.loadPayload bs).qec = s.qec := rfl
@[simp] theorem loadPayload_sxl (bs : List Byte) : (s.loadPayload bs).sxl = s.sxl := rfl
@[simp] theorem loadPayload_sxh (bs : List Byte) : (s.loadPayload bs).sxh = s.sxh := rfl
@[simp] theorem loadPayload_syl (bs : List Byte) : (s.loadPayload bs).syl = s.syl := rfl
@[simp] theorem loadPayload_syh (bs : List Byte) : (s.loadPayload bs).syh = s.syh := rfl
@[simp] theorem loadPayload_exl (bs : List Byte) : (s.loadPayload bs).exl = s.exl := rfl
@[simp] theorem loadPayload_exh (bs : List Byte) : (s.loadPayload bs).exh = s.exh := rfl
@[simp] theorem loadPayload_eyl (bs : List Byte) : (s.loadPayload bs).eyl = s.eyl := rfl
@[simp] theorem loadPayload_eyh (bs : List Byte) : (s.loadPayload bs).eyh = s.eyh := rfl
@[simp] theorem loadPayload_inc (bs : List Byte) : (s.loadPayload bs).inc = s.inc := rfl
@[simp] theorem loadPayload_rbW (bs : List Byte) : (s.loadPayload bs).rbW = s.rbW := rfl
@[simp] theorem loadPayload_rbH (bs : List Byte) : (s.loadPayload bs).rbH = s.rbH := rfl
@[simp] theorem loadPayload_hxl (bs : List Byte) : (s.loadPayload bs).hxl = s.hxl := rfl
@[simp] theorem loadPayload_hxh (bs : List Byte) : (s.loadPayload bs).hxh = s.hxh := rfl
@[simp] theorem loadPayload_hyl (bs : List Byte) : (s.loadPayload bs).hyl = s.hyl := rfl
@[simp] theorem loadPayload_hyh (bs : List Byte) : (s.loadPayload bs).hyh = s.hyh := rfl
@[simp] theorem loadPayload_grid (bs : List Byte) : (s.loadPayload bs).grid = s.grid := rfl
@[simp] theorem loadPayload_pay (bs : List Byte) : (s.loadPayload bs).pay = bs := rfl
@[simp] theorem loadPayload_rb (bs : List Byte) : (s.loadPayload bs).rb = s.rb := rfl
@[simp] theorem loadPayload_out (bs : List Byte) : (s.loadPayload bs).out = s.out := rfl
@[simp] theorem loadPayload_cfg (bs : List Byte) : (s.loadPayload bs).cfg = s.cfg := rfl
@[simp] theorem loadPayload_script (bs : List Byte) : (s.loadPayload bs).script = s.script := rfl
@[simp] theorem loadPayload_reads (bs : List Byte) : (s.loadPayload bs).reads = s.reads := rfl
@[simp] theorem loadPayload_sunk (bs : List Byte) : (s.loadPayload bs).sunk = s.sunk := rfl

/-! #### logRead -/

@[simp] theorem logRead_err (v : HostRead) : (s.logRead v).err = s.err := rfl
@[simp] theorem logRead_w (v : HostRead) : (s.logRead v).w = s.w := rfl
@[simp] theorem logRead_h (v : HostRead) : (s.logRead v).h = s.h := rfl
@[simp] theorem logRead_plen (v : HostRead) : (s.logRead v).plen = s.plen := rfl
@[simp] theorem logRead_sym (v : HostRead) : (s.logRead v).sym = s.sym := rfl
@[simp] theorem logRead_qmodel (v : HostRead) : (s.logRead v).qmodel = s.qmodel := rfl
@[simp] theorem logRead_qsize (v : HostRead) : (s.logRead v).qsize = s.qsize := rfl
@[simp] theorem logRead_qec (v : HostRead) : (s.logRead v).qec = s.qec := rfl
@[simp] theorem logRead_sxl (v : HostRead) : (s.logRead v).sxl = s.sxl := rfl
@[simp] theorem logRead_sxh (v : HostRead) : (s.logRead v).sxh = s.sxh := rfl
@[simp] theorem logRead_syl (v : HostRead) : (s.logRead v).syl = s.syl := rfl
@[simp] theorem logRead_syh (v : HostRead) : (s.logRead v).syh = s.syh := rfl
@[simp] theorem logRead_exl (v : HostRead) : (s.logRead v).exl = s.exl := rfl
@[simp] theorem logRead_exh (v : HostRead) : (s.logRead v).exh = s.exh := rfl
@[simp] theorem logRead_eyl (v : HostRead) : (s.logRead v).eyl = s.eyl := rfl
@[simp] theorem logRead_eyh (v : HostRead) : (s.logRead v).eyh = s.eyh := rfl
@[simp] theorem logRead_inc (v : HostRead) : (s.logRead v).inc = s.inc := rfl
@[simp] theorem logRead_rbW (v : HostRead) : (s.logRead v).rbW = s.rbW := rfl
@[simp] theorem logRead_rbH (v : HostRead) : (s.logRead v).rbH = s.rbH := rfl
@[simp] theorem logRead_hxl (v : HostRead) : (s.logRead v).hxl = s.hxl := rfl
@[simp] theorem logRead_hxh (v : HostRead) : (s.logRead v).hxh = s.hxh := rfl
@[simp] theorem logRead_hyl (v : HostRead) : (s.logRead v).hyl = s.hyl := rfl
@[simp] theorem logRead_hyh (v : HostRead) : (s.logRead v).hyh = s.hyh := rfl
@[simp] theorem logRead_grid (v : HostRead) : (s.logRead v).grid = s.grid := rfl
@[simp] theorem logRead_pay (v : HostRead) : (s.logRead v).pay = s.pay := rfl
@[simp] theorem logRead_rb (v : HostRead) : (s.logRead v).rb = s.rb := rfl
@[simp] theorem logRead_out (v : HostRead) : (s.logRead v).out = s.out := rfl
@[simp] theorem logRead_cfg (v : HostRead) : (s.logRead v).cfg = s.cfg := rfl
@[simp] theorem logRead_script (v : HostRead) : (s.logRead v).script = s.script := rfl
@[simp] theorem logRead_reads (v : HostRead) : (s.logRead v).reads = s.reads ++ [v] := rfl
@[simp] theorem logRead_sunk (v : HostRead) : (s.logRead v).sunk = s.sunk := rfl

/-! #### sinkTake -/

@[simp] theorem sinkTake_err (n : Nat) : (s.sinkTake n).err = s.err := rfl
@[simp] theorem sinkTake_w (n : Nat) : (s.sinkTake n).w = s.w := rfl
@[simp] theorem sinkTake_h (n : Nat) : (s.sinkTake n).h = s.h := rfl
@[simp] theorem sinkTake_plen (n : Nat) : (s.sinkTake n).plen = s.plen := rfl
@[simp] theorem sinkTake_sym (n : Nat) : (s.sinkTake n).sym = s.sym := rfl
@[simp] theorem sinkTake_qmodel (n : Nat) : (s.sinkTake n).qmodel = s.qmodel := rfl
@[simp] theorem sinkTake_qsize (n : Nat) : (s.sinkTake n).qsize = s.qsize := rfl
@[simp] theorem sinkTake_qec (n : Nat) : (s.sinkTake n).qec = s.qec := rfl
@[simp] theorem sinkTake_sxl (n : Nat) : (s.sinkTake n).sxl = s.sxl := rfl
@[simp] theorem sinkTake_sxh (n : Nat) : (s.sinkTake n).sxh = s.sxh := rfl
@[simp] theorem sinkTake_syl (n : Nat) : (s.sinkTake n).syl = s.syl := rfl
@[simp] theorem sinkTake_syh (n : Nat) : (s.sinkTake n).syh = s.syh := rfl
@[simp] theorem sinkTake_exl (n : Nat) : (s.sinkTake n).exl = s.exl := rfl
@[simp] theorem sinkTake_exh (n : Nat) : (s.sinkTake n).exh = s.exh := rfl
@[simp] theorem sinkTake_eyl (n : Nat) : (s.sinkTake n).eyl = s.eyl := rfl
@[simp] theorem sinkTake_eyh (n : Nat) : (s.sinkTake n).eyh = s.eyh := rfl
@[simp] theorem sinkTake_inc (n : Nat) : (s.sinkTake n).inc = s.inc := rfl
@[simp] theorem sinkTake_rbW (n : Nat) : (s.sinkTake n).rbW = s.rbW := rfl
@[simp] theorem sinkTake_rbH (n : Nat) : (s.sinkTake n).rbH = s.rbH := rfl
@[simp] theorem sinkTake_hxl (n : Nat) : (s.sinkTake n).hxl = s.hxl := rfl
@[simp] theorem sinkTake_hxh (n : Nat) : (s.sinkTake n).hxh = s.hxh := rfl
@[simp] theorem sinkTake_hyl (n : Nat) : (s.sinkTake n).hyl = s.hyl := rfl
@[simp] theorem sinkTake_hyh (n : Nat) : (s.sinkTake n).hyh = s.hyh := rfl
@[simp] theorem sinkTake_grid (n : Nat) : (s.sinkTake n).grid = s.grid := rfl
@[simp] theorem sinkTake_pay (n : Nat) : (s.sinkTake n).pay = s.pay := rfl
@[simp] theorem sinkTake_rb (n : Nat) : (s.sinkTake n).rb = s.rb := rfl
@[simp] theorem sinkTake_out (n : Nat) : (s.sinkTake n).out = s.out.drop n := rfl
@[simp] theorem sinkTake_cfg (n : Nat) : (s.sinkTake n).cfg = s.cfg := rfl
@[simp] theorem sinkTake_script (n : Nat) : (s.sinkTake n).script = s.script := rfl
@[simp] theorem sinkTake_reads (n : Nat) : (s.sinkTake n).reads = s.reads := rfl
@[simp] theorem sinkTake_sunk (n : Nat) : (s.sinkTake n).sunk = s.sunk ++ s.out.take n := rfl

/-! #### setScript -/

@[simp] theorem setScript_err (as : List Action) : (s.setScript as).err = s.err := rfl
@[simp] theorem setScript_w (as : List Action) : (s.setScript as).w = s.w := rfl
@[simp] theorem setScript_h (as : List Action) : (s.setScript as).h = s.h := rfl
@[simp] theorem setScript_plen (as : List Action) : (s.setScript as).plen = s.plen := rfl
@[simp] theorem setScript_sym (as : List Action) : (s.setScript as).sym = s.sym := rfl
@[simp] theorem setScript_qmodel (as : List Action) : (s.setScript as).qmodel = s.qmodel := rfl
@[simp] theorem setScript_qsize (as : List Action) : (s.setScript as).qsize = s.qsize := rfl
@[simp] theorem setScript_qec (as : List Action) : (s.setScript as).qec = s.qec := rfl
@[simp] theorem setScript_sxl (as : List Action) : (s.setScript as).sxl = s.sxl := rfl
@[simp] theorem setScript_sxh (as : List Action) : (s.setScript as).sxh = s.sxh := rfl
@[simp] theorem setScript_syl (as : List Action) : (s.setScript as).syl = s.syl := rfl
@[simp] theorem setScript_syh (as : List Action) : (s.setScript as).syh = s.syh := rfl
@[simp] theorem setScript_exl (as : List Action) : (s.setScript as).exl = s.exl := rfl
@[simp] theorem setScript_exh (as : List Action) : (s.setScript as).exh = s.exh := rfl
@[simp] theorem setScript_eyl (as : List Action) : (s.setScript as).eyl = s.eyl := rfl
@[simp] theorem setScript_eyh (as : List Action) : (s.setScript as).eyh = s.eyh := rfl
@[simp] theorem setScript_inc (as : List Action) : (s.setScript as).inc = s.inc := rfl
@[simp] theorem setScript_rbW (as : List Action) : (s.setScript as).rbW = s.rbW := rfl
@[simp] theorem setScript_rbH (as : List Action) : (s.setScript as).rbH = s.rbH := rfl
@[simp] theorem setScript_hxl (as : List Action) : (s.setScript as).hxl = s.hxl := rfl
@[simp] theorem setScript_hxh (as : List Action) : (s.setScript as).hxh = s.hxh := rfl
@[simp] theorem setScript_hyl (as : List Action) : (s.setScript as).hyl = s.hyl := rfl
@[simp] theorem setScript_hyh (as : List Action) : (s.setScript as).hyh = s.hyh := rfl
@[simp] theorem setScript_grid (as : List Action) : (s.setScript as).grid = s.grid := rfl
@[simp] theorem setScript_pay (as : List Action) : (s.setScript as).pay = s.pay := rfl
@[simp] theorem setScript_rb (as : List Action) : (s.setScript as).rb = s.rb := rfl
@[simp] theorem setScript_out (as : List Action) : (s.setScript as).out = s.out := rfl
@[simp] theorem setScript_cfg (as : List Action) : (s.setScript as).cfg = s.cfg := rfl
@[simp] theorem setScript_script (as : List Action) : (s.setScript as).script = as := rfl
@[simp] theorem setScript_reads (as : List Action) : (s.setScript as).reads = s.reads := rfl
@[simp] theorem setScript_sunk (as : List Action) : (s.setScript as).sunk = s.sunk := rfl

/-! #### hardReset -/

@[simp] theorem hardReset_err : s.hardReset.err = 0 := rfl
@[simp] theorem hardReset_w : s.hardReset.w = 0 := rfl
@[simp] theorem hardReset_h : s.hardReset.h = 0 := rfl
@[simp] theorem hardReset_plen : s.hardReset.plen = 0 := rfl
@[simp] theorem hardReset_sym : s.hardReset.sym = 0 := rfl
@[simp] theorem hardReset_qmodel : s.hardReset.qmodel = 0 := rfl
@[simp] theorem hardReset_qsize : s.hardReset.qsize = 0 := rfl
@[simp] theorem hardReset_qec : s.hardReset.qec = 0 := rfl
@[simp] theorem hardReset_sxl : s.hardReset.sxl = 0 := rfl
@[simp] theorem hardReset_sxh : s.hardReset.sxh = 0 := rfl
@[simp] theorem hardReset_syl : s.hardReset.syl = 0 := rfl
@[simp] theorem hardReset_syh : s.hardReset.syh = 0 := rfl
@[simp] theorem hardReset_exl : s.hardReset.exl = 0 := rfl
@[simp] theorem hardReset_exh : s.hardReset.exh = 0 := rfl
@[simp] theorem hardReset_eyl : s.hardReset.eyl = 0 := rfl
@[simp] theorem hardReset_eyh : s.hardReset.eyh = 0 := rfl
@[simp] theorem hardReset_inc : s.hardReset.inc = 0 := rfl
@[simp] theorem hardReset_rbW : s.hardReset.rbW = 0 := rfl
@[simp] theorem hardReset_rbH : s.hardReset.rbH = 0 := rfl
@[simp] theorem hardReset_hxl : s.hardReset.hxl = 0 := rfl
@[simp] theorem hardReset_hxh : s.hardReset.hxh = 0 := rfl
@[simp] theorem hardReset_hyl : s.hardReset.hyl = 0 := rfl
@[simp] theorem hardReset_hyh : s.hardReset.hyh = 0 := rfl
@[simp] theorem hardReset_grid : s.hardReset.grid = [] := rfl
@[simp] theorem hardReset_pay : s.hardReset.pay = [] := rfl
@[simp] theorem hardReset_rb : s.hardReset.rb = [] := rfl
@[simp] theorem hardReset_out : s.hardReset.out = [] := rfl
@[simp] theorem hardReset_cfg : s.hardReset.cfg = s.cfg := rfl
@[simp] theorem hardReset_script : s.hardReset.script = s.script := rfl
@[simp] theorem hardReset_reads : s.hardReset.reads = s.reads := rfl
@[simp] theorem hardReset_sunk : s.hardReset.sunk = s.sunk := rfl

end Sys2Proof.Machine.State
end

