-- ==== Sys2Proof/Laws/Memory.lean ====
section
/-! SUPPORT. Every operation over memories and registers keeps the canonical form of the memories, and the
reset state has it. -/

namespace Sys2Proof.Machine

theorem Memory.wf_iff (s : State) : Memory.wf s = true ↔
    gridShape s.w.toNat s.h.toNat s.grid = true ∧ s.pay.length = s.plen.toNat ∧
      s.rb.length = s.rbW.toNat * s.rbH.toNat / 8 := by
  simp [Memory.wf, and_assoc]

/-- The canonical form looks at the memories and the registers that give their sizes, nothing else. -/
theorem Memory.wf_congr {s t : State} (hg : t.grid = s.grid) (hw : t.w = s.w) (hh : t.h = s.h)
    (hp : t.pay = s.pay) (hl : t.plen = s.plen) (hr : t.rb = s.rb) (hx : t.rbW = s.rbW)
    (hy : t.rbH = s.rbH) : Memory.wf t = Memory.wf s := by
  simp [Memory.wf, hg, hw, hh, hp, hl, hr, hx, hy]

variable {s : State}

@[simp] theorem emit_wf (bs : List Byte) : Memory.wf (s.emit bs) = Memory.wf s := rfl
@[simp] theorem succeed_wf : Memory.wf s.succeed = Memory.wf s := rfl
@[simp] theorem raise_wf (e : ErrorKind) : Memory.wf (s.raise e) = Memory.wf s := rfl
@[simp] theorem setHeader_wf (a b : Nat) : Memory.wf (s.setHeader a b) = Memory.wf s := rfl
@[simp] theorem setStartY_wf (l : Byte) (y : Half) : Memory.wf (s.setStartY l y) = Memory.wf s := rfl
@[simp] theorem logRead_wf (v : HostRead) : Memory.wf (s.logRead v) = Memory.wf s := rfl
@[simp] theorem sinkTake_wf (n : Nat) : Memory.wf (s.sinkTake n) = Memory.wf s := rfl
@[simp] theorem setScript_wf (as : List Action) : Memory.wf (s.setScript as) = Memory.wf s := rfl

@[simp] theorem writeReg_wf (r : Reg) (v : Half) : Memory.wf (writeReg r v s) = Memory.wf s :=
  Memory.wf_congr (by simp) (by simp) (by simp) (by simp) (by simp) (by simp) (by simp) (by simp)

theorem setBlock_wf (hs : Memory.wf s = true) {bs : List Byte} {a b : Nat} (ha : a < 65536)
    (hb : b < 65536) (hl : bs.length = a * b / 8) : Memory.wf (s.setBlock bs a b) = true := by
  rw [Memory.wf_iff] at hs ⊢
  simpa [Nat.mod_eq_of_lt ha, Nat.mod_eq_of_lt hb, hl] using ⟨hs.1, hs.2.1⟩

theorem loadGrid_wf (hs : Memory.wf s = true) {w h : Half} {g : List (List Bool)}
    (hg : gridShape w.toNat h.toNat g = true) : Memory.wf (s.loadGrid w h g) = true := by
  rw [Memory.wf_iff] at hs ⊢
  simpa [hg] using hs.2

theorem loadPayload_wf (hs : Memory.wf s = true) {bs : List Byte} (hb : bs.length ≤ 65535) :
    Memory.wf (s.loadPayload bs) = true := by
  rw [Memory.wf_iff] at hs ⊢
  refine ⟨by simpa using hs.1, ?_, by simpa using hs.2.2⟩
  simp [Nat.mod_eq_of_lt (Nat.lt_succ_of_le hb)]

@[simp] theorem hardReset_wf : Memory.wf s.hardReset = true := by simp [Memory.wf, gridShape]

@[simp] theorem reset_wf : Memory.wf State.reset = true := by
  simp [Memory.wf, gridShape, State.reset]

/-- With the memories in form, the payload an operation reads is the whole payload. -/
theorem pay_length (hs : Memory.wf s = true) : s.pay.length = s.plen.toNat :=
  ((Memory.wf_iff s).mp hs).2.1

end Sys2Proof.Machine
end

