-- ==== Sys2Proof/Laws/Frames.lean ====
section
/-! SUPPORT. What the framers' shared operations give: the QR frame builder, the payload, the Y advance and
the bands of FRAME.BANDS in closed form. -/

namespace Sys2Proof.Machine

/-- With the memories in form, `PAY[0 .. PLEN-1]` is the payload (R16). -/
theorem payBytes_eq {s : State} (hs : Memory.wf s = true) : payBytes s = s.pay :=
  List.take_of_length_le (pay_length hs).le

@[simp] theorem posBytes_length (s : State) : (posBytes s).length = 10 := rfl

@[simp] theorem bitImageHeader_length (s : State) :
    (bitImageHeader s).length = s.cfg.bimgPrefix.length + 3 := by simp [bitImageHeader]

/-- `len(QRFrame(fn, params)) = 7 + len(params)` (R132). -/
@[simp] theorem qrFrame_length (cfg : Config) (fn : Byte) (params : List Byte) :
    (qrFrame cfg fn params).length = 7 + params.length := by
  simp [qrFrame]; omega

/-- The frame's bytes in order (R130). -/
theorem qrFrame_eq (cfg : Config) (fn : Byte) (params : List Byte) :
    qrFrame cfg fn params =
      0x1D :: 0x28 :: 0x6B :: lo8 (2 + params.length) :: hi8 (2 + params.length) :: cfg.qrCn :: fn :: params :=
  rfl

/-! #### The Y advance -/

theorem yAdvanceSum_le (s : State) : yAdvanceSum s ≤ 510 := by
  have := s.syl.isLt; have := s.inc.isLt; unfold yAdvanceSum; omega

@[simp] theorem advanceY_syl (s : State) : (advanceY s).syl = BitVec.ofNat 8 (yAdvanceSum s % 256) := rfl

theorem advanceY_syh_of_overflow {s : State} (h : 255 < yAdvanceSum s) :
    (advanceY s).syh = BitVec.ofNat 16 ((s.syh.toNat + yAdvanceSum s) % 65536) := by
  simp [advanceY, yOverflow, h]

theorem advanceY_syh_of_le {s : State} (h : yAdvanceSum s ≤ 255) : (advanceY s).syh = s.syh := by
  simp [advanceY, yOverflow, Nat.not_lt.mpr h]

/-- The advance writes the start-Y pair only. -/
theorem advanceY_frame (s : State) :
    advanceY s = s.setStartY (advanceY s).syl (advanceY s).syh := rfl

/-- The advance looks at the start-Y pair and the increment only. -/
theorem advanceY_congr {a b : State} (hl : a.syl = b.syl) (hh : a.syh = b.syh) (hi : a.inc = b.inc) :
    (advanceY a).syl = (advanceY b).syl ∧ (advanceY a).syh = (advanceY b).syh := by
  refine ⟨by simp only [advanceY_syl, yAdvanceSum, hl, hi], ?_⟩
  simp only [advanceY, yOverflow, yAdvanceSum, hl, hh, hi, State.setStartY_syh]
  congr

/-- Any number of advances writes the start-Y pair only. -/
theorem advanceY_iterate_frame (n : Nat) (s : State) :
    advanceY^[n] s = s.setStartY (advanceY^[n] s).syl (advanceY^[n] s).syh := by
  induction n with
  | zero => rfl
  | succ n ih =>
    rw [Function.iterate_succ_apply']
    have overwrite : ∀ l y, (advanceY^[n] s).setStartY l y = s.setStartY l y := by
      intro l y; rw [ih]; rfl
    rw [← overwrite]
    exact advanceY_frame _

/-! #### FRAME.BANDS -/

/-- The state before the frame of band `n` is emitted, seen from the start: `n` advances. -/
def framesUpTo (s : State) (n : Nat) : List Byte :=
  (List.range n).flatMap fun b => posBytes (advanceY^[b] s) ++ bitImageHeader s ++ bandSlice s b

/-- What the first `n` bands of FRAME.BANDS do (R155): their frames are appended, and the start-Y pair has
advanced `n - 1` times. -/
theorem frameBands_eq (s : State) (n : Nat) :
    frameBands n s = (advanceY^[n - 1] s).emit (framesUpTo s n) := by
  induction n with
  | zero => simp [frameBands, framesUpTo, State.emit]
  | succ n ih =>
    have step : ∀ t : State, t = s.setStartY t.syl t.syh →
        bandFrame t n = posBytes t ++ bitImageHeader s ++ bandSlice s n := by
      intro t ht
      unfold bandFrame
      congr 1
      · congr 1; rw [ht]; rfl
      · rw [ht]; rfl
    unfold framesUpTo at *
    rw [List.range_succ, List.flatMap_append]
    rcases n with _ | n
    · simp [frameBands, bandFrame, State.emit]
    · have h1 : frameBands (n + 1 + 1) s =
          (advanceY (frameBands (n + 1) s)).emit (bandFrame (advanceY (frameBands (n + 1) s)) (n + 1)) := rfl
      have h2 : ∀ bs, advanceY ((advanceY^[n] s).emit bs) = (advanceY^[n + 1] s).emit bs := by
        intro bs; rw [Function.iterate_succ_apply']; rfl
      have h3 : ∀ bs, bandFrame ((advanceY^[n + 1] s).emit bs) (n + 1) =
          posBytes (advanceY^[n + 1] s) ++ bitImageHeader s ++ bandSlice s (n + 1) := by
        intro bs
        rw [← step _ (advanceY_iterate_frame (n + 1) s)]
        rfl
      rw [h1, ih, Nat.add_sub_cancel, h2, h3]
      simp [State.emit, List.append_assoc]

/-- A slice of a block of the right size is whole (R150). -/
theorem bandSlice_length {s : State} (hs : s.rb.length = s.rbW.toNat * s.rbH.toNat / 8) {b : Nat}
    (hb : b < blockBands s) : (bandSlice s b).length = 3 * s.rbW.toNat := by
  unfold bandSlice
  rw [List.length_take, List.length_drop, hs, Nat.min_eq_left]
  have h1 : b + 1 ≤ s.rbH.toNat / 24 := hb
  have h2 : 24 * (b + 1) ≤ s.rbH.toNat := by omega
  have h3 : s.rbW.toNat * (24 * (b + 1)) ≤ s.rbW.toNat * s.rbH.toNat := Nat.mul_le_mul_left _ h2
  have h4 : s.rbW.toNat * (24 * (b + 1)) = 8 * (b * (3 * s.rbW.toNat) + 3 * s.rbW.toNat) := by ring
  omega

end Sys2Proof.Machine
end

