-- ==== Sys2Proof/Laws/Lists.lean ====
section
/-! SUPPORT. Sequences put together from equal pieces: length, the byte at an index, and slices. -/

namespace Sys2Proof.Machine

theorem flatMap_range_length {α : Type} (f : Nat → List α) (m : Nat) :
    ∀ n, (∀ i, i < n → (f i).length = m) → ((List.range n).flatMap f).length = n * m
  | 0, _ => by simp
  | n + 1, h => by
    rw [List.range_succ, List.flatMap_append, List.length_append,
      flatMap_range_length f m n fun i hi => h i (Nat.lt_succ_of_lt hi)]
    simp [h n (Nat.lt_succ_self n), Nat.succ_mul]

/-- Dropping `i` whole pieces and taking one gives piece `i`. -/
theorem flatMap_range_slice {α : Type} (f : Nat → List α) (m : Nat) :
    ∀ n i, (∀ k, k < n → (f k).length = m) → i < n →
      (((List.range n).flatMap f).drop (i * m)).take m = f i
  | n + 1, i, h, hi => by
    have hn : ∀ k, k < n → (f k).length = m := fun k hk => h k (Nat.lt_succ_of_lt hk)
    have hlen := flatMap_range_length f m n hn
    rw [List.range_succ, List.flatMap_append, List.drop_append, hlen]
    rcases Nat.lt_succ_iff_lt_or_eq.mp hi with hlt | rfl
    · have hle : (i + 1) * m ≤ n * m := Nat.mul_le_mul_right m hlt
      have hle' : i * m + m ≤ n * m := by rw [← Nat.succ_mul]; exact hle
      rw [List.take_append_of_le_length (by rw [List.length_drop, hlen]; omega)]
      exact flatMap_range_slice f m n i hn hlt
    · rw [List.drop_of_length_le (by rw [hlen])]
      simp only [List.nil_append, Nat.sub_self, List.drop_zero, List.flatMap_cons, List.flatMap_nil,
        List.append_nil]
      rw [List.take_of_length_le (by rw [h i hi])]

/-- The element at `i * m + j` is element `j` of piece `i`. -/
theorem flatMap_range_get {α : Type} (f : Nat → List α) {m n i j : Nat}
    (h : ∀ k, k < n → (f k).length = m) (hi : i < n) (hj : j < m) :
    ((List.range n).flatMap f)[i * m + j]? = (f i)[j]? := by
  rw [← flatMap_range_slice f m n i h hi, List.getElem?_take, if_pos hj, List.getElem?_drop]

theorem map_range_get {α : Type} (f : Nat → α) {n j : Nat} (hj : j < n) :
    ((List.range n).map f)[j]? = some (f j) := by
  simp [hj]

end Sys2Proof.Machine
end

