-- ==== Sys2Proof/Laws/Packing.lean ====
section
/-! SUPPORT. What the two packing functions give: lengths, the byte at an index, the bytes of a band, and
that only effective cells are read. -/

namespace Sys2Proof.Machine

theorem effW_eq (s : State) : effW s = 8 * (s.w.toNat / 8) := rfl
theorem effHSimple_eq (s : State) : effHSimple s = 8 * (s.h.toNat / 8) := rfl
theorem effHBand_eq (s : State) : effHBand s = 24 * (s.h.toNat / 24) := rfl
theorem byteW_eq (s : State) : byteW s = s.w.toNat / 8 := by unfold byteW; rw [effW_eq]; omega
theorem nBands_eq (s : State) : nBands s = s.h.toNat / 24 := by
  unfold nBands; rw [effHBand_eq]; show _ / 24 = _; omega

theorem effW_lt (s : State) : effW s < 65536 := lt_of_le_of_lt (floorTo_le _ _) s.w.isLt
theorem effHSimple_lt (s : State) : effHSimple s < 65536 := lt_of_le_of_lt (floorTo_le _ _) s.h.isLt
theorem effHBand_lt (s : State) : effHBand s < 65536 := lt_of_le_of_lt (floorTo_le _ _) s.h.isLt

theorem simpleBytes_length (s : State) : (simpleBytes s).length = effHSimple s * byteW s :=
  flatMap_range_length _ _ _ fun _ _ => by simp

/-- The byte index of R101. -/
theorem simpleBytes_get (s : State) {y b : Nat} (hy : y < effHSimple s) (hb : b < byteW s) :
    (simpleBytes s)[y * byteW s + b]? = some (simpleByte s y b) := by
  unfold simpleBytes
  rw [flatMap_range_get _ (fun _ _ => by simp) hy hb, map_range_get _ hb]

theorem simpleByte_bit (s : State) (y b : Nat) {k : Nat} (hk : k < 8) :
    (simpleByte s y b).getLsbD (7 - k) = s.cell y (8 * b + k) := packByte_bit _ hk

@[simp] theorem bandColumn_length (s : State) (i j : Nat) : (bandColumn s i j).length = 3 := by
  simp [bandColumn]

@[simp] theorem bandRow_length (s : State) (i : Nat) : (bandRow s i).length = 3 * effW s := by
  unfold bandRow
  rw [flatMap_range_length _ 3 _ fun _ _ => bandColumn_length s i _, Nat.mul_comm]

theorem bandBytes_length (s : State) : (bandBytes s).length = nBands s * (3 * effW s) :=
  flatMap_range_length _ _ _ fun _ _ => bandRow_length s _

/-- The slice of R106: the bytes of band `i`. -/
theorem bandBytes_slice (s : State) {i : Nat} (hi : i < nBands s) :
    ((bandBytes s).drop (i * (3 * effW s))).take (3 * effW s) = bandRow s i :=
  flatMap_range_slice _ _ _ _ (fun _ _ => bandRow_length s _) hi

/-- A byte of a band: column `j`, sub-byte `k`. -/
theorem bandRow_get (s : State) (i : Nat) {j k : Nat} (hj : j < effW s) (hk : k < 3) :
    (bandRow s i)[3 * j + k]? = some (bandByte s i j k) := by
  unfold bandRow
  rw [Nat.mul_comm 3 j, flatMap_range_get _ (fun _ _ => bandColumn_length s i _) hj hk]
  unfold bandColumn
  rw [map_range_get _ hk]

/-- The byte index of R106. -/
theorem bandBytes_get (s : State) {i j k : Nat} (hi : i < nBands s) (hj : j < effW s) (hk : k < 3) :
    (bandBytes s)[i * (3 * effW s) + 3 * j + k]? = some (bandByte s i j k) := by
  unfold bandBytes
  rw [Nat.add_assoc, flatMap_range_get _ (fun _ _ => bandRow_length s _) hi (by omega),
    bandRow_get s i hj hk]

theorem bandByte_bit (s : State) (i j k : Nat) {r : Nat} (hr : r < 8) :
    (bandByte s i j k).getLsbD (7 - r) = s.cell (24 * i + 8 * k + r) j := packByte_bit _ hr

/-- The simple layout reads the effective cells only (R45). -/
theorem simpleBytes_congr {a b : State} (hw : a.w = b.w) (hh : a.h = b.h)
    (hc : ∀ r c, r < effHSimple a → c < effW a → a.cell r c = b.cell r c) :
    simpleBytes a = simpleBytes b := by
  have ew : effW a = effW b := by rw [effW_eq, effW_eq, hw]
  have eh : effHSimple a = effHSimple b := by rw [effHSimple_eq, effHSimple_eq, hh]
  unfold simpleBytes byteW
  rw [← eh, ← ew]
  refine List.flatMap_congr fun y hy => List.map_congr_left fun x hx => packByte_congr fun k hk => ?_
  have hx' := List.mem_range.mp hx
  exact hc _ _ (List.mem_range.mp hy) (by rw [effW_eq] at hx' ⊢; omega)

/-- The band layout reads the effective cells only (R45). -/
theorem bandBytes_congr {a b : State} (hw : a.w = b.w) (hh : a.h = b.h)
    (hc : ∀ r c, r < effHBand a → c < effW a → a.cell r c = b.cell r c) : bandBytes a = bandBytes b := by
  have ew : effW a = effW b := by rw [effW_eq, effW_eq, hw]
  have en : nBands a = nBands b := by rw [nBands_eq, nBands_eq, hh]
  unfold bandBytes bandRow bandColumn
  rw [← en, ← ew]
  refine List.flatMap_congr fun i hi => List.flatMap_congr fun j hj =>
    List.map_congr_left fun k hk => packByte_congr fun r hr => ?_
  have hi' := List.mem_range.mp hi
  have hk' := List.mem_range.mp hk
  exact hc _ _ (by rw [nBands_eq] at hi'; rw [effHBand_eq]; omega) (List.mem_range.mp hj)

end Sys2Proof.Machine
end

