-- ==== Sys2Proof/Laws/PerInstr.lean ====
section
/-! SUPPORT. Statements for all operations, one lemma per constructor. Family Encoding: the operation is
well formed, its request is one byte (R60), that byte decodes to it and to no other, and it is legal. -/

namespace Sys2Proof.Laws.Encoding

/-- What family Encoding says of an operation. -/
def Statement (i : Instr) : Prop :=
  i.wf = true ∧ (encode i).length = 1 ∧ decode (encode i) = .instr i [] ∧
    ∀ j, opSelCode j = opSelCode i → j = i

theorem of_code (i : Instr) (hw : i.wf = true) (inj : ∀ j, opSelCode j = opSelCode i → j = i) :
    Statement i := ⟨hw, rfl, decode_opSelCode i [], inj⟩

theorem rastSimple : Statement .rastSimple := of_code _ rfl fun j => by cases j <;> decide
theorem rastBand : Statement .rastBand := of_code _ rfl fun j => by cases j <;> decide
theorem prnReset : Statement .prnReset := of_code _ rfl fun j => by cases j <;> decide
theorem cutFull : Statement .cutFull := of_code _ rfl fun j => by cases j <;> decide
theorem cutPartial : Statement .cutPartial := of_code _ rfl fun j => by cases j <;> decide
theorem setArea : Statement .setArea := of_code _ rfl fun j => by cases j <;> decide
theorem barcode : Statement .barcode := of_code _ rfl fun j => by cases j <;> decide
theorem qrcode : Statement .qrcode := of_code _ rfl fun j => by cases j <;> decide
theorem frameBands : Statement .frameBands := of_code _ rfl fun j => by cases j <;> decide

end Sys2Proof.Laws.Encoding
end

