-- ==== Sys2Proof/Laws/Step.lean ====
section
/-! SUPPORT. What a request, a host action and a step can answer: one inversion lemma each. -/

namespace Sys2Proof.Machine

/-- A request is the operation of its code, or IllegalOperation (R13, R185). -/
theorem request_cases (v : Byte) (s : State) :
    (∃ i, opSelCode i = v ∧ request v s = exec i s) ∨
      ((∀ i, opSelCode i ≠ v) ∧ request v s = .next (s.raise .illegalOperation)) := by
  rcases decode_byte_cases v [] with ⟨i, hd, hc⟩ | ⟨hd, hc⟩
  · exact .inl ⟨i, hc, by simp [request, hd]⟩
  · exact .inr ⟨hc, by simp [request, hd]⟩

@[simp] theorem request_opSelCode (i : Instr) (s : State) : request (opSelCode i) s = exec i s := by
  simp [request]

/-- A request of the code that the table gives an operation, as the host's CMD write carries it. -/
@[simp] theorem setWidth_request (v : Byte) : (v.setWidth 16).setWidth 8 = v := by
  apply BitVec.eq_of_toNat_eq
  have := v.isLt
  simp only [BitVec.toNat_setWidth]; omega

/-- A write to CMD of a byte is its request (R13). -/
@[simp] theorem hostWriteReg_cmd (v : Byte) (s : State) :
    hostWriteReg 0x00 (v.setWidth 16) s = request v s := by
  have h1 : regOfNumber 0x00 = some .cmd := by decide
  have h2 : valueFits .cmd (v.setWidth 16) = true := by
    have := v.isLt
    simp only [valueFits, regWidth, BitVec.toNat_setWidth, decide_eq_true_eq]; omega
  have h3 : hostWritable .cmd = true := rfl
  simp only [hostWriteReg, h1, h2, h3, Bool.not_true, Bool.false_eq_true, if_false, if_true, setWidth_request]

@[simp] theorem step_idle {s : State} (h : s.script = []) : step s = .next s := by
  simp [step, nextAction, h]

@[simp] theorem step_action {s : State} {a : Action} {rest : List Action} (h : s.script = a :: rest) :
    step s = perform a (s.setScript rest) := by simp [step, nextAction, h]

theorem hostLoadGrid_next {w h : Half} {g : List (List Bool)} {s t : State}
    (ht : hostLoadGrid w h g s = .next t) : gridShape w.toNat h.toNat g = true ∧
      beyondCap s.cfg.gridCap (w.toNat * h.toNat) = false ∧ t = s.loadGrid w h g := by
  unfold hostLoadGrid at ht
  split at ht
  · cases ht
  · split at ht
    · cases ht
    · cases ht; simp_all

theorem hostLoadPayload_next {bs : List Byte} {s t : State} (ht : hostLoadPayload bs s = .next t) :
    bs.length ≤ 65535 ∧ t = s.loadPayload bs := by
  unfold hostLoadPayload at ht
  split at ht
  · cases ht
  · rename_i h
    cases ht; exact ⟨Nat.not_lt.mp h, rfl⟩

theorem hostWriteReg_next {n : Byte} {v : Half} {s t : State} (ht : hostWriteReg n v s = .next t) :
    ∃ r, regOfNumber n = some r ∧ hostWritable r = true ∧ valueFits r v = true ∧
      ((r = .cmd ∧ request (v.setWidth 8) s = .next t) ∨ (r ≠ .cmd ∧ t = writeReg r v s)) := by
  unfold hostWriteReg at ht
  split at ht
  · cases ht
  · rename_i r hr
    split at ht
    · cases ht
    · split at ht
      · cases ht
      · split at ht
        · exact ⟨r, hr, by simp_all, by simp_all, .inl ⟨by assumption, ht⟩⟩
        · cases ht; exact ⟨r, hr, by simp_all, by simp_all, .inr ⟨by assumption, rfl⟩⟩

theorem hostReadReg_next {n : Byte} {s t : State} (ht : hostReadReg n s = .next t) :
    ∃ r, regOfNumber n = some r ∧ hostReadable r = true ∧ t = s.logRead (.reg n (readReg r s)) := by
  unfold hostReadReg at ht
  split at ht
  · cases ht
  · rename_i r hr
    split at ht
    · cases ht; exact ⟨r, hr, by assumption, rfl⟩
    · cases ht

theorem hostReadRB_next {i : Nat} {s t : State} (ht : hostReadRB i s = .next t) :
    ∃ b, s.rb[i]? = some b ∧ t = s.logRead (.rb i b) := by
  unfold hostReadRB at ht
  split at ht
  · cases ht
  · rename_i b hb
    cases ht; exact ⟨b, hb, rfl⟩

/-- What a step can do: stay idle, or take the next action off the script and do it, the action being one
of the host's loads, register writes or requests, its reads, hardware reset, or the sink's consumption. -/
theorem step_cases {s t : State} (h : step s = .next t) :
    (s.script = [] ∧ t = s) ∨ ∃ rest,
      (∃ w ht g, s.script = .loadGrid w ht g :: rest ∧ gridShape w.toNat ht.toNat g = true ∧
        t = (s.setScript rest).loadGrid w ht g) ∨
      (∃ bs, s.script = .loadPayload bs :: rest ∧ bs.length ≤ 65535 ∧
        t = (s.setScript rest).loadPayload bs) ∨
      (∃ n v, s.script = .writeReg n v :: rest ∧ request (v.setWidth 8) (s.setScript rest) = .next t) ∨
      (∃ n v r, s.script = .writeReg n v :: rest ∧ r ≠ .cmd ∧ t = writeReg r v (s.setScript rest)) ∨
      (∃ v, ((∃ n, s.script = .readReg n :: rest) ∨ ∃ i, s.script = .readRB i :: rest) ∧
        t = (s.setScript rest).logRead v) ∨
      (s.script = .hardReset :: rest ∧ t = (s.setScript rest).hardReset) ∨
      (∃ n, s.script = .sinkTake n :: rest ∧ t = (s.setScript rest).sinkTake n) := by
  rcases hs : s.script with _ | ⟨a, rest⟩
  · rw [step_idle hs] at h; cases h; exact .inl ⟨rfl, rfl⟩
  · refine .inr ⟨rest, ?_⟩
    rw [step_action hs] at h
    cases a with
    | loadGrid w ht g =>
      obtain ⟨hg, -, rfl⟩ := hostLoadGrid_next h
      exact .inl ⟨w, ht, g, rfl, hg, rfl⟩
    | loadPayload bs =>
      obtain ⟨hb, rfl⟩ := hostLoadPayload_next h
      exact .inr (.inl ⟨bs, rfl, hb, rfl⟩)
    | writeReg n v =>
      obtain ⟨r, -, -, -, ⟨-, hq⟩ | ⟨hc, rfl⟩⟩ := hostWriteReg_next h
      · exact .inr (.inr (.inl ⟨n, v, rfl, hq⟩))
      · exact .inr (.inr (.inr (.inl ⟨n, v, r, rfl, hc, rfl⟩)))
    | readReg n =>
      obtain ⟨r, -, -, rfl⟩ := hostReadReg_next h
      exact .inr (.inr (.inr (.inr (.inl ⟨_, .inl ⟨n, rfl⟩, rfl⟩))))
    | readRB i =>
      obtain ⟨b, -, rfl⟩ := hostReadRB_next h
      exact .inr (.inr (.inr (.inr (.inl ⟨_, .inr ⟨i, rfl⟩, rfl⟩))))
    | hardReset =>
      cases h; exact .inr (.inr (.inr (.inr (.inr (.inl ⟨rfl, rfl⟩)))))
    | sinkTake n =>
      cases h; exact .inr (.inr (.inr (.inr (.inr (.inr ⟨n, rfl, rfl⟩)))))

/-- The configuration a block has meets the constraints of D22. -/
theorem config_installed_wf : Config.installed.wf = true := by
  unfold Config.installed
  split
  · assumption
  · decide

end Sys2Proof.Machine
end

