-- ==== Sys2Proof/Tests/Slice0.lean ====
section
/-! SUPPORT. Tests: expected results are the spec's test vectors (95_test_vectors.md) or worked examples;
and, for each statement with hypotheses, witnesses that meet them. -/

namespace Sys2Proof.Tests

open Sys2Proof Sys2Proof.Machine

/-! ### Helpers -/

/-- The reset state in the reference configuration REF. -/
def base : State := { State.reset with cfg := Config.ref }

/-- A grid from its size and a predicate on (row, column), as the vectors give it. -/
def gridOf (w h : Nat) (black : Nat → Nat → Bool) : List (List Bool) :=
  (List.range h).map fun r => (List.range w).map fun c => black r c

/-- `base` with a grid loaded. -/
def gridState (w h : Nat) (black : Nat → Nat → Bool) : State :=
  base.loadGrid (BitVec.ofNat 16 w) (BitVec.ofNat 16 h) (gridOf w h black)

/-- `base` with a payload and a symbology code. -/
def payState (bytes : List Byte) (sym : Byte) : State := { base.loadPayload bytes with sym := sym }

/-- A field of the next state, where there is one. -/
def see {α : Type} (f : State → α) (o : Host.Outcome State Fault Refusal) : Option α :=
  match o with
  | .next t => some (f t)
  | .fault _ => none
  | .refused _ => none

/-- The refusal, where there is one. -/
def why (o : Host.Outcome State Fault Refusal) : Option Refusal :=
  match o with
  | .refused r => some r
  | .fault _ => none
  | .next _ => none

theorem base_inv : base.Inv := ⟨by decide, by decide, by decide, by decide, by decide, by decide⟩

theorem payState_inv {bytes : List Byte} (h : bytes.length ≤ 65535) (sym : Byte) : (payState bytes sym).Inv := by
  have hw : Memory.wf (base.loadPayload bytes) = true := loadPayload_wf base_inv.memory h
  exact ⟨hw, base_inv.blockWidth, base_inv.errCode, base_inv.headerWidth, base_inv.headerHeight, base_inv.config⟩

/-- PLEN counts the loaded bytes. -/
theorem payState_plen {n : Nat} (h : n ≤ 65535) (b sym : Byte) :
    (payState (List.replicate n b) sym).plen.toNat = n := by
  have hp : (payState (List.replicate n b) sym).plen = BitVec.ofNat 16 (List.replicate n b).length := rfl
  rw [hp, BitVec.toNat_ofNat, List.length_replicate]
  exact Nat.mod_eq_of_lt (by omega)

theorem payState_replicate_inv {n : Nat} (h : n ≤ 65535) (b sym : Byte) :
    (payState (List.replicate n b) sym).Inv := payState_inv (by rw [List.length_replicate]; exact h) sym

/-! ### Well-formedness: an ill-formed term for each check -/

theorem test_wf_every_operation : Instr.all.all Instr.wf = true := by decide
theorem test_wf_grid_rows : (Action.loadGrid 2 2 [[true, false]]).wf = false := by decide
theorem test_wf_grid_columns : (Action.loadGrid 2 1 [[true]]).wf = false := by decide
theorem test_wf_payload : (Action.loadPayload (List.replicate 65536 0)).wf = false := by
  change decide ((List.replicate 65536 (0 : Byte)).length ≤ payCap) = false
  rw [List.length_replicate]
  decide
theorem test_wf_write_number : (Action.writeReg 0x18 0).wf = false := by decide
theorem test_wf_write_access : (Action.writeReg 0x01 0).wf = false := by decide
theorem test_wf_write_value : (Action.writeReg 0x05 0x100).wf = false := by decide
theorem test_wf_read_number : (Action.readReg 0xFF).wf = false := by decide
theorem test_wf_read_access : (Action.readReg 0x00).wf = false := by decide
theorem test_wf_config_models : ({ Config.ref with qrModelByte1 := 0x31 } : Config).wf = false := by decide
theorem test_wf_config_levels : ({ Config.ref with qrEcHi := 0x34 } : Config).wf = false := by decide
theorem test_wf_config_tail :
    ({ Config.ref with qrPrintTail := List.replicate 254 0 } : Config).wf = false := by
  change (true && true && decide ((List.replicate 254 (0 : Byte)).length ≤ 253)) = false
  rw [List.length_replicate]
  decide
theorem test_wf_config_ref : Config.ref.wf = true := by decide

/-! ### Decoding: the words of R61, bit by bit (bits 7..0) -/

theorem test_decode_rast_simple : decode [0b00000001#8] = .instr .rastSimple [] := by decide
theorem test_decode_rast_band : decode [0b00000010#8] = .instr .rastBand [] := by decide
theorem test_decode_prn_reset : decode [0b00010000#8] = .instr .prnReset [] := by decide
theorem test_decode_cut_full : decode [0b00010001#8] = .instr .cutFull [] := by decide
theorem test_decode_cut_partial : decode [0b00010010#8] = .instr .cutPartial [] := by decide
theorem test_decode_set_area : decode [0b00010011#8] = .instr .setArea [] := by decide
theorem test_decode_barcode : decode [0b00100000#8] = .instr .barcode [] := by decide
theorem test_decode_qrcode : decode [0b00100001#8] = .instr .qrcode [] := by decide
theorem test_decode_frame_bands : decode [0b00100010#8] = .instr .frameBands [] := by decide

/-- R71: the neighbours of the codes, and zero, are illegal. -/
theorem test_decode_illegal : [0x00, 0x03, 0x0F, 0x14, 0x1F, 0x23, 0xFF].map (fun b => decode [b]) =
    [0x00, 0x03, 0x0F, 0x14, 0x1F, 0x23, 0xFF].map (fun b => .rejected (.illegalOpSelect b)) := by decide

/-- The encoding of program P2 of 95_test_vectors.md section 3. -/
theorem test_encode_program : encodeAll [.prnReset, .rastBand, .frameBands, .cutFull] =
    [0x10, 0x02, 0x22, 0x11] := by decide

theorem test_table_word : decodeTableWord 8 0x22 = some .frameBands ∧
    decodeTableWord 16 0x0013 = some .setArea ∧ decodeTableWord 8 0x03 = none := by decide

/-! ### One step runs the placed request -/

theorem test_fetch_runs : see (fun t => t.out) (step (State.reset.withFetchWord 8 0x10)) =
    some [0x1B, 0x40] := by decide

/-! ### RAST.SIMPLE -/

/-- V-S5: 10x9, `(r + c) mod 3 = 0`. -/
theorem test_rast_simple_truncates :
    see (fun t => (t.rb, t.rbW, t.rbH)) (exec .rastSimple (gridState 10 9 fun r c => (r + c) % 3 == 0)) =
      some ([0x92, 0x24, 0x49, 0x92, 0x24, 0x49, 0x92, 0x24], 8, 8) := by decide

/-- V-S6 and V-S12: the header pairs. -/
theorem test_rast_simple_header :
    see (fun t => (t.hxl, t.hxh, t.hyl, t.hyh)) (exec .rastSimple (gridState 7 8 fun _ _ => true)) =
      some (0x00, 0x00, 0x08, 0x00) ∧
    see (fun t => t.rb.take 3) (exec .rastSimple
      (gridState 24 8 fun r c => r == 0 && (c == 0 || c == 9 || c == 18 || c == 23))) =
      some [0x80, 0x40, 0x21] := by decide

/-! ### RAST.BAND -/

/-- V-B5: 8x24, `r = 3c`. -/
theorem test_rast_band_diagonal :
    see (fun t => t.rb) (exec .rastBand (gridState 8 24 fun r c => r == 3 * c)) =
      some [0x80, 0, 0, 0x10, 0, 0, 0x02, 0, 0, 0, 0x40, 0, 0, 0x08, 0, 0, 0x01, 0, 0, 0, 0x20, 0, 0, 0x04] := by
  decide

/-- V-B4: 24x24, only (9, 2), which a transposed reading would put at index 27; HXL stays as it was. -/
theorem test_rast_band_not_transposed :
    see (fun t => ((t.rb[7]?, t.rb[27]?), (t.rbH, t.hxl)))
      (exec .rastBand { gridState 24 24 fun r c => r == 9 && c == 2 with hxl := 9 }) =
      some ((some 0x40, some 0x00), (24, 9)) := by decide

/-! ### Fixed commands (V-X1 to V-X5) -/

theorem test_prn_reset : see (fun t => (t.out, t.err, t.syl))
    (exec .prnReset { base with out := [0xAA], err := 3, syl := 5 }) = some ([0xAA, 0x1B, 0x40], 0, 5) := by decide
theorem test_cut_full : see (fun t => t.out) (exec .cutFull base) = some [0x1D, 0x56, 0x41, 0x00] := by decide
theorem test_cut_partial : see (fun t => t.out) (exec .cutPartial base) = some [0x1D, 0x56, 0x01] := by decide
theorem test_set_area : see (fun t => t.out)
    (exec .setArea { base with sxl := 1, sxh := 2, syl := 3, syh := 260, exl := 5, exh := 6, eyl := 7, eyh := 8 }) =
      some [0x1B, 0x57, 1, 2, 3, 4, 5, 6, 7, 8] := by decide

/-! ### BARCODE -/

/-- V-C1 and V-C2. -/
theorem test_barcode_doc0 :
    see (fun t => t.out) (exec .barcode (payState [0x31, 0x32, 0x33, 0x34, 0x41] 0x49)) =
      some [0x1D, 0x6B, 0x49, 0x05, 0x31, 0x32, 0x33, 0x34, 0x41] ∧
    see (fun t => t.out) (exec .barcode
      (payState [0x31, 0x32, 0x33, 0x34, 0x35, 0x36, 0x37, 0x38, 0x39, 0x30, 0x31, 0x32] 0x00)) =
      some [0x1D, 0x6B, 0, 0x31, 0x32, 0x33, 0x34, 0x35, 0x36, 0x37, 0x38, 0x39, 0x30, 0x31, 0x32, 0] := by decide

/-- V-C3, V-C4 and V-C7: the threshold, and an embedded zero. -/
theorem test_barcode_threshold :
    see (fun t => t.out) (exec .barcode (payState [0x41, 0x42] 68)) = some [0x1D, 0x6B, 0x44, 0x41, 0x42, 0] ∧
    see (fun t => t.out) (exec .barcode (payState [0x41, 0x42] 69)) = some [0x1D, 0x6B, 0x45, 2, 0x41, 0x42] ∧
    see (fun t => t.out) (exec .barcode (payState [0x41, 0, 0x42] 4)) = some [0x1D, 0x6B, 4, 0x41, 0, 0x42, 0] := by
  decide

/-! ### QRCODE (REF) -/

/-- V-Q1. -/
theorem test_qrcode_hi :
    see (fun t => t.out) (exec .qrcode { payState [0x48, 0x49] 0 with qsize := 3, qec := 0x31 }) =
      some ([0x1D, 0x28, 0x6B, 0x04, 0x00, 0x31, 0x41, 0x31, 0x00] ++
        [0x1D, 0x28, 0x6B, 0x03, 0x00, 0x31, 0x43, 0x03] ++ [0x1D, 0x28, 0x6B, 0x03, 0x00, 0x31, 0x45, 0x31] ++
        [0x1D, 0x28, 0x6B, 0x05, 0x00, 0x31, 0x50, 0x30, 0x48, 0x49] ++
        [0x1D, 0x28, 0x6B, 0x03, 0x00, 0x31, 0x51, 0x30]) := by decide

/-- V-Q3: the clamps from above, the second model; the registers are not written back. -/
theorem test_qrcode_clamps :
    see (fun t => (t.out, t.qsize, t.qec))
      (exec .qrcode { payState [0x41] 0 with qmodel := 1, qsize := 17, qec := 0xFF }) =
      some ([0x1D, 0x28, 0x6B, 0x04, 0x00, 0x31, 0x41, 0x32, 0x00] ++
        [0x1D, 0x28, 0x6B, 0x03, 0x00, 0x31, 0x43, 0x10] ++ [0x1D, 0x28, 0x6B, 0x03, 0x00, 0x31, 0x45, 0x33] ++
        [0x1D, 0x28, 0x6B, 0x04, 0x00, 0x31, 0x50, 0x30, 0x41] ++
        [0x1D, 0x28, 0x6B, 0x03, 0x00, 0x31, 0x51, 0x30], 17, 0xFF) := by decide

/-! ### FRAME.BANDS -/

/-- The block of V-B7 with the registers of V-F1. -/
def bandState : State :=
  { base with
    cfg := { Config.ref with bimgPrefix := [] }
    rb := (List.replicate 8 [0x00, 0x00, 0x01]).flatten ++ (List.replicate 8 [0x80, 0x00, 0x00]).flatten
    rbW := 8, rbH := 48, syl := 0xF0, exl := 0x08, eyl := 0x18, inc := 0x18 }

/-- V-F1. -/
theorem test_frame_bands_two :
    see (fun t => (t.out, t.syl, t.syh)) (exec .frameBands bandState) =
      some ([0x1B, 0x57, 0, 0, 0xF0, 0, 8, 0, 0x18, 0, 0x21, 8, 0] ++ (List.replicate 8 [0x00, 0x00, 0x01]).flatten ++
        [0x1B, 0x57, 0, 0, 8, 8, 8, 0, 0x18, 0, 0x21, 8, 0] ++ (List.replicate 8 [0x80, 0x00, 0x00]).flatten,
        8, 264) := by decide

/-- V-F4: a block of width 0, and V-F9: none. -/
theorem test_frame_bands_empty :
    see (fun t => (t.out, t.syl)) (exec .frameBands
      { base with cfg := { Config.ref with bimgPrefix := [] }, rbH := 24, syl := 5, inc := 3 }) =
      some ([0x1B, 0x57, 0, 0, 5, 0, 0, 0, 0, 0, 0x21, 0, 0], 5) ∧
    see (fun t => t.out) (exec .frameBands base) = some [] := by decide

/-- V-A1, V-A3, V-A4, V-A10: overflow, 255, 256, and the accumulator's wrap. -/
theorem test_advance_y :
    [(250, 0, 10), (245, 0, 10), (246, 0, 10), (255, 65535, 255)].map (fun v : Byte × Half × Byte =>
      let t := advanceY { base with syl := v.1, syh := v.2.1, inc := v.2.2 }
      (t.syl, t.syh)) = [(4, 260), (255, 0), (0, 256), (254, 509)] := by decide

/-! ### Host actions and the front end -/

/-- U14: a host write of QMODEL keeps bit 0 only. -/
theorem test_write_qmodel :
    see (fun t => t.qmodel) (step { base with script := [.writeReg 0x06 3] }) = some 1 := by decide

/-- R13, R85: writing 0x03 to CMD; then V-E5: ERR is not sticky. -/
theorem test_err_not_sticky :
    see (fun t => t.err) (step { base with script := [.writeReg 0x00 0x03] }) = some 4 ∧
    see (fun t => t.err) (step { base with err := 4, script := [.writeReg 0x00 0x11] }) = some 0 := by decide

/-- V-P3. -/
theorem test_composite : composite ⟨0, 100, 255, 128⟩ = ⟨127, 177, 255, 255⟩ := by decide

/-- V-P6 and V-P7 (R95), under the exact-rational reference: grey 128 is white. -/
theorem test_threshold : [(0, 0, 0), (255, 255, 255), (255, 0, 0), (0, 255, 0), (0, 0, 255), (127, 127, 127),
    (128, 128, 127), (128, 128, 128)].map
      (fun v : Byte × Byte × Byte => threshold frontEndRef ⟨v.1, v.2.1, v.2.2, 255⟩) =
    [true, false, true, false, true, true, true, false] := by decide

/-- R94: the floating evaluation that gives black for grey 128 is a configuration too. -/
theorem test_threshold_tie_is_configured :
    threshold ⟨fun r g b => decide (luminance1000 r g b ≤ 128000)⟩ ⟨128, 128, 128, 255⟩ = true := by decide

/-! ### Witnesses: concrete states that meet the hypotheses of each statement -/

theorem test_witness_RequestSequencesRoundTrip :
    decodeAll [0x10, 0x02, 0x22, 0x11] = .ok [.prnReset, .rastBand, .frameBands, .cutFull] := by rfl

theorem test_witness_StepRunsTheRequestedOperation :
    ({ base with script := [.writeReg 0x00 ((0x22 : Byte).setWidth 16)] } : State).script =
      [.writeReg 0x00 ((0x22 : Byte).setWidth 16)] ∧
    decode [0x22] = .instr .frameBands [] ∧ Instr.wf .frameBands = true := by decide

theorem test_witness_IllegalRequestOnlySetsErr :
    ({ base with script := [.writeReg 0x00 ((0x23 : Byte).setWidth 16)] } : State).script =
      [.writeReg 0x00 ((0x23 : Byte).setWidth 16)] ∧
    (0x23 : Byte) ∉ [0x01, 0x02, 0x10, 0x11, 0x12, 0x13, 0x20, 0x21, 0x22] := by decide

/-- PayloadTooLongExactlyWhen, ErrorCodesExactlyWhen, ErrorsArePrecise: requests that leave each code. -/
theorem test_witness_request_codes :
    see (fun t => t.err) (request 0x11 base) = some 0 ∧
    see (fun t => t.err) (request 0x21 { base with plen := 7090 }) = some 1 ∧
    see (fun t => t.err) (request 0x21 { base with plen := 7089 }) = some 0 ∧
    see (fun t => t.err) (request 0x20 { base with plen := 256, sym := 69 }) = some 3 ∧
    see (fun t => t.err) (request 0x20 { base with plen := 255, sym := 69 }) = some 0 ∧
    see (fun t => t.err) (request 0x20 { base with plen := 256, sym := 68 }) = some 0 ∧
    see (fun t => t.err) (request 0x00 base) = some 4 := by decide

/-- DroppedCellsAreNeverRead: V-S5's grid and one that differs in dropped cells only, for both layouts. -/
theorem test_witness_DroppedCellsAreNeverRead :
    let a := gridState 9 25 fun _ _ => false
    let b := gridState 9 25 fun r c => c == 8 || r == 24
    a.w = b.w ∧ a.h = b.h ∧ a ≠ b ∧
    (∀ r, r < 24 → ∀ c, c < 8 → a.cell r c = b.cell r c) ∧
    a.h.toNat / 24 = 1 ∧ a.h.toNat / 8 = 3 ∧ a.w.toNat / 8 = 1 := by decide

theorem test_witness_RasterizingIsIdempotent : ∃ t u, exec .rastSimple base = .next t ∧
    exec .rastBand base = .next u := ⟨_, _, rfl, rfl⟩

theorem test_witness_BarcodeFraming :
    ((payState [0x41] 68).Inv ∧ (payState [0x41] 68).sym.toNat ≤ 68) ∧
    ((payState (List.replicate 255 0) 69).Inv ∧ 69 ≤ (payState (List.replicate 255 0) 69).sym.toNat ∧
      (payState (List.replicate 255 0) 69).plen.toNat ≤ 255) :=
  ⟨⟨payState_inv (by decide) _, by decide⟩, payState_replicate_inv (by decide) _ _, Nat.le_refl 69,
    (payState_plen (by decide) _ _).le⟩

theorem test_witness_BarcodeLengthUnrepresentable :
    69 ≤ (payState (List.replicate 256 0) 69).sym.toNat ∧
    255 < (payState (List.replicate 256 0) 69).plen.toNat :=
  ⟨Nat.le_refl 69, by rw [payState_plen (by decide)]; decide⟩

theorem test_witness_BarcodeAppendsPlenPlusFour : (payState [0x41] 69).Inv ∧
    see (fun t => t.err) (exec .barcode (payState [0x41] 69)) = some 0 :=
  ⟨payState_inv (by decide) _, by decide⟩

theorem test_witness_BarcodeWorkedExamples :
    let a := payState [0x31, 0x32, 0x33, 0x34, 0x41] 0x49
    let b := payState [0x31, 0x32, 0x33, 0x34, 0x35, 0x36, 0x37, 0x38, 0x39, 0x30, 0x31, 0x32] 0x00
    a.sym = symbologyCode .code128 ∧ a.plen = 5 ∧ a.pay = [0x31, 0x32, 0x33, 0x34, 0x41] ∧
    b.sym = symbologyCode .upcA ∧ b.plen = 12 ∧
    b.pay = [0x31, 0x32, 0x33, 0x34, 0x35, 0x36, 0x37, 0x38, 0x39, 0x30, 0x31, 0x32] := by decide

/-- QrLengthCheckComesFirst, QrFiveFrames, LengthPrefixesAreExact: 7089 payload bytes, and 7090. -/
theorem test_witness_qr_lengths :
    (payState (List.replicate 7089 0x78) 0).Inv ∧ (payState (List.replicate 7089 0x78) 0).plen.toNat ≤ 7089 ∧
    7089 < (payState (List.replicate 7090 0x78) 0).plen.toNat ∧
    (payState (List.replicate 255 0x78) 0).Inv ∧ (payState (List.replicate 255 0x78) 0).plen.toNat ≤ 255 :=
  ⟨payState_replicate_inv (by decide) _ _, (payState_plen (by decide) _ _).le,
    by rw [payState_plen (by decide)]; decide, payState_replicate_inv (by decide) _ _,
    (payState_plen (by decide) _ _).le⟩

theorem test_witness_QrAppendedLength : (payState [0x41] 0).Inv ∧
    see (fun t => t.err) (exec .qrcode (payState [0x41] 0)) = some 0 :=
  ⟨payState_inv (by decide) _, by decide⟩

/-- QrModuleSizeClamps at 0, 1, 16 and 17; the values are the size clamp table's of 95 section 2.4. -/
theorem test_witness_QrModuleSizeClamps :
    [0, 1, 16, 17, 255].map (fun v => (qrSize { base with qsize := v }).toNat) = [1, 1, 16, 16, 16] := by decide

/-- QrLevelClamps one below, at both bounds, and one above (V-Q9, V-Q10). -/
theorem test_witness_QrLevelClamps : base.Inv ∧
    [0x2F, 0x30, 0x33, 0x34].map (fun v => qrLevel { base with qec := v }) = [0x30, 0x30, 0x33, 0x33] :=
  ⟨base_inv, by decide⟩

/-- YAdvance: sums 255 and 256 (V-A3, V-A4). -/
theorem test_witness_YAdvance :
    ({ base with syl := 245, inc := 10 } : State).syl.toNat + ({ base with syl := 245, inc := 10 } : State).inc.toNat ≤ 255 ∧
    255 < ({ base with syl := 246, inc := 10 } : State).syl.toNat + ({ base with syl := 246, inc := 10 } : State).inc.toNat := by
  decide

/-- YAdvanceWorkedExample and YAdvanceSevenBands. -/
theorem test_witness_y_examples :
    (({ base with syl := 250, inc := 10 } : State).syl = 250 ∧ ({ base with syl := 250, inc := 10 } : State).inc = 10 ∧
      ({ base with syl := 250, inc := 10 } : State).syh = 0) ∧
    (({ base with syl := 200, inc := 24 } : State).syl = 200 ∧ ({ base with syl := 200, inc := 24 } : State).syh = 0 ∧
      ({ base with syl := 200, inc := 24 } : State).inc = 24) := by decide

theorem test_witness_FrameBandsAppendedLength : bandState.Inv ∧ ∃ t, exec .frameBands bandState = .next t :=
  ⟨⟨by decide, by decide, by decide, by decide, by decide, by decide⟩, _, rfl⟩

theorem test_witness_OnlyLowByteOfSyhIsEmitted :
    (0x0104 : Half).toNat % 256 = ({ bandState with syh := 0x0004 } : State).syh.toNat % 256 ∧
    (0x0104 : Half) ≠ ({ bandState with syh := 0x0004 } : State).syh := by decide

/-- OperationsWriteOnlyWhatIsListed and SinkProgressDoesNotMatter. -/
theorem test_witness_exec_answers :
    (∃ t, exec .frameBands { bandState with out := [1, 2] } = .next t) ∧
    (∃ t, exec .rastBand { bandState with out := [1, 2] } = .next t) ∧
    2 ≤ ({ bandState with out := [1, 2] } : State).out.length := ⟨⟨_, rfl⟩, ⟨_, rfl⟩, by decide⟩

/-- OperationsReadOnlyWhatIsListed: BARCODE reads neither QSIZE nor the position registers. -/
theorem test_witness_OperationsReadOnlyWhatIsListed :
    sameReads .barcode (payState [0x41] 4) { payState [0x41] 4 with qsize := 9, sxl := 7, out := [5] } ∧
    (∃ t, exec .barcode (payState [0x41] 4) = .next t) ∧
    (∃ t, exec .barcode { payState [0x41] 4 with qsize := 9, sxl := 7, out := [5] } = .next t) :=
  ⟨by simp only [sameReads]; decide, ⟨_, rfl⟩, ⟨_, rfl⟩⟩

/-- EveryStepKeepsTheInvariant, EmittedBytesAreFinal, InputsChangeOnlyByLoads. -/
theorem test_witness_step_answers :
    ({ bandState with script := [.writeReg 0x00 0x22] } : State).Inv ∧
    (∃ t, step { bandState with script := [.writeReg 0x00 0x22] } = .next t) ∧
    ∀ rest, ({ bandState with script := [.writeReg 0x00 0x22] } : State).script ≠ .hardReset :: rest :=
  ⟨⟨by decide, by decide, by decide, by decide, by decide, by decide⟩, ⟨_, rfl⟩, by intro rest h; cases h⟩

theorem test_witness_AcceptedActionsArePerformed :
    Accepted (.readRB 47) bandState ∧ Accepted (.loadGrid 1 1 [[true]]) base ∧ Accepted (.loadPayload [1]) base ∧
    Accepted (.writeReg 0x06 3) base ∧ Accepted (.readReg 0x17) base ∧ Accepted .hardReset base ∧
    Accepted (.sinkTake 3) base := by
  simp only [Accepted]; decide

/-- AcceptedActionsArePerformed: a state whose next action is accepted. -/
theorem test_witness_accepted_next (a : Action) (rest : List Action)
    (h : ({ bandState with script := [.readRB 47] } : State).script = a :: rest) :
    Accepted a { bandState with script := [.readRB 47] } := by
  cases h; simp only [Accepted]; decide

theorem test_witness_HardwareReset :
    ({ bandState with script := [.hardReset, .readReg 1] } : State).script = .hardReset :: [.readReg 1] := by decide

theorem test_witness_IdleStepChangesNothing : base.script = [] := by decide

/-- LoadGridSetsTheGrid at a capacity just reached. -/
theorem test_witness_LoadGridSetsTheGrid :
    let s : State := { base with cfg := { Config.ref with gridCap := some 2 }, script := [.loadGrid 2 1 [[true, false]]] }
    s.script = [.loadGrid 2 1 [[true, false]]] ∧ gridShape (2 : Half).toNat (1 : Half).toNat [[true, false]] = true ∧
    (∀ n, s.cfg.gridCap = some n → (2 : Half).toNat * (1 : Half).toNat ≤ n) :=
  ⟨rfl, by decide, by rintro n ⟨⟩; decide⟩

/-- LoadPayloadSetsThePayload at the capacity, and RefusedHostActions one above it. -/
theorem test_witness_payload_capacity :
    ({ base with script := [.loadPayload (List.replicate 65535 0)] } : State).script =
      [.loadPayload (List.replicate 65535 0)] ∧
    (List.replicate 65535 (0 : Byte)).length ≤ 65535 ∧ 65535 < (List.replicate 65536 (0 : Byte)).length := by
  rw [List.length_replicate, List.length_replicate]; exact ⟨rfl, by decide⟩

/-- WriteRegStoresTheValue: a byte register, the wide SYH, and QMODEL. -/
theorem test_witness_WriteRegStoresTheValue :
    (hostWritable .inc = true ∧ (0xFF : Half).toNat < 2 ^ regWidth .inc) ∧
    (hostWritable .syh = true ∧ (0xFFFF : Half).toNat < 2 ^ regWidth .syh) ∧
    see (fun t => readReg .qmodel t) (step { base with script := [.writeReg 0x06 0xFFFF] }) = some 1 ∧
    see (fun t => readReg .inc t) (step { base with script := [.writeReg 0x11 0xFF] }) = some 0xFF := by decide

/-- ReadsReturnWithoutSideEffect: the last register, the last byte of RB. -/
theorem test_witness_ReadsReturnWithoutSideEffect :
    see (fun t => t.reads) (step { bandState with script := [.readReg 0x13] }) = some [.reg 0x13 48] ∧
    see (fun t => t.reads) (step { bandState with script := [.readRB 47] }) = some [.rb 47 0x00] ∧
    47 < bandState.rb.length := by decide

theorem test_witness_SinkConsumesFromTheFront :
    see (fun t => (t.out, t.sunk)) (step { base with out := [1, 2, 3], sunk := [9], script := [.sinkTake 2] }) =
      some ([3], [9, 1, 2]) := by decide

/-- RefusedHostActions, each clause at its boundary. -/
theorem test_witness_RefusedHostActions :
    why (step { base with cfg := { Config.ref with gridCap := some 1 }, script := [.loadGrid 2 1 [[true, false]]] }) =
      some .gridTooLarge ∧
    why (step { base with script := [.writeReg 0x18 0] }) = some .noSuchRegister ∧
    why (step { base with script := [.readReg 0x18] }) = some .noSuchRegister ∧
    why (step { base with script := [.writeReg 0x17 0] }) = some .notHostWritable ∧
    why (step { base with script := [.readReg 0x00] }) = some .notHostReadable ∧
    why (step { bandState with script := [.readRB 48] }) = some .rbIndexOutOfRange ∧
    why (step { base with script := [.writeReg 0x05 0x100] }) = some .valueTooWide ∧
    why (step { base with script := [.loadGrid 2 1 [[true]]] }) = some .malformedGrid := by decide

/-- RegisterNumbersNameRegisters: the last register's number and the one above. -/
theorem test_witness_RegisterNumbersNameRegisters :
    regOfNumber 0x17 = some .hyh ∧ regOfNumber 0x18 = none := by decide

/-- OperationsStraightAfterReset: a configuration that meets its constraints. -/
theorem test_witness_OperationsStraightAfterReset : Config.ref.wf = true := by decide

/-- CompositeAtTheEnds: V-P1 and V-P2. -/
theorem test_witness_CompositeAtTheEnds :
    composite ⟨0, 0, 0, 0⟩ = ⟨255, 255, 255, 255⟩ ∧ composite ⟨12, 200, 99, 255⟩ = ⟨12, 200, 99, 255⟩ := by decide

/-- ThresholdAwayFromTheTie: a comparison that follows R93 and differs from the reference at the tie, and
colours on either side of it. -/
theorem test_witness_ThresholdAwayFromTheTie :
    followsR93 ⟨fun r g b => decide (luminance1000 r g b ≤ 128000)⟩ ∧
    luminance1000 128 128 127 < 128000 ∧ 128000 < luminance1000 128 128 129 :=
  ⟨fun _ _ _ => ⟨fun h => decide_eq_true h.le, fun h => decide_eq_false (by omega)⟩, by decide, by decide⟩

theorem test_witness_FrontEndGridIsLoadable :
    let picture : List (List Pixel) := [[⟨0, 0, 0, 255⟩, ⟨255, 255, 255, 255⟩]]
    let s : State := { base with script := [.loadGrid 2 1 (frontEnd frontEndRef picture)] }
    picture.length = (1 : Half).toNat ∧ (∀ row ∈ picture, row.length = (2 : Half).toNat) ∧
    s.cfg.gridCap = none ∧ s.script = [.loadGrid 2 1 (frontEnd frontEndRef picture)] :=
  ⟨by decide, by decide, rfl, rfl⟩

end Sys2Proof.Tests
end

