-- ==== Sys2Proof/Proofs/FrontEnd.lean ====
section
/-! The compositor at its two corner cases (R92): the channel formula of R91 at each end, then the pixel. -/

namespace Sys2Proof.Machine

/-- R92, `A = 0`: the colour's weight is 0, and the white left is `(255 * 255) div 255`. -/
theorem compositeChannel_zero (ch : Byte) : compositeChannel 0 ch = 255 := by
  simp [compositeChannel]

/-- R92, `A = 255`: the white's weight is 0, and `(255 * ch) div 255` is exact. -/
theorem compositeChannel_opaque (ch : Byte) : compositeChannel 255 ch = ch := by
  have exact_div : 255 * ch.toNat / 255 = ch.toNat := Nat.mul_div_cancel_left _ (by decide)
  simp [compositeChannel, exact_div]

/-- A transparent pixel shows the white behind it. -/
theorem composite_of_alpha_zero {p : Pixel} (h : p.alpha = 0) : composite p = ⟨255, 255, 255, 255⟩ := by
  rw [composite, h]
  simp only [compositeChannel_zero]

/-- An opaque pixel hides the white behind it. -/
theorem composite_of_alpha_opaque {p : Pixel} (h : p.alpha = 255) : composite p = p := by
  obtain ⟨red, green, blue, alpha⟩ := p
  obtain rfl : alpha = 255 := h
  simp only [composite, compositeChannel_opaque]

/-- Settles O56: each clause is the channel formula's value at that end. -/
theorem compositeAtTheEnds : Obligations.CompositeAtTheEnds :=
  fun _ => ⟨composite_of_alpha_zero, composite_of_alpha_opaque⟩

end Sys2Proof.Machine
end

