-- ==== Sys2Proof/Proofs/Rasterizer.lean ====
section
/-! The dimensions the two rasterizing operations record (R100, R102, R104): each effective dimension fits
its 16-bit register, and is the largest multiple at or below the grid's. -/

namespace Sys2Proof.Machine

/-! #### What `floorTo` drops -/

theorem dvd_floorTo (n v : Nat) : n ∣ floorTo n v := Nat.dvd_mul_right n (v / n)

/-- What is dropped is the remainder (R45), so less than one whole multiple. -/
theorem sub_floorTo_le {n : Nat} (hn : 0 < n) (v : Nat) : v - floorTo n v ≤ n - 1 :=
  calc v - floorTo n v = v % n := Nat.mod_eq_sub_mul_div.symm
    _ ≤ n - 1 := Nat.le_pred_of_lt (Nat.mod_lt v hn)

/-! #### The block's dimension registers -/

namespace State

theorem setBlock_rbW_toNat (s : State) (bytes : List Byte) {width : Nat} (h : width < 65536) (height : Nat) :
    (s.setBlock bytes width height).rbW.toNat = width := Nat.mod_eq_of_lt h

theorem setBlock_rbH_toNat (s : State) (bytes : List Byte) (width : Nat) {height : Nat} (h : height < 65536) :
    (s.setBlock bytes width height).rbH.toNat = height := Nat.mod_eq_of_lt h

end State

theorem byteW_lt (s : State) : byteW s < 65536 := (Nat.div_le_self _ _).trans_lt (effW_lt s)

/-! #### The two operations -/

/-- RAST.SIMPLE as updates of the state (R103). -/
theorem exec_rastSimple (s : State) :
    exec .rastSimple s = .next (((s.setBlock (simpleBytes s) (effW s) (effHSimple s)).setHeader
      (byteW s) (effHSimple s)).succeed) := rfl

/-- RAST.BAND as updates of the state (R107). -/
theorem exec_rastBand (s : State) :
    exec .rastBand s = .next ((s.setBlock (bandBytes s) (effW s) (effHBand s)).succeed) := rfl

/-- The dimensions and the header pairs RAST.SIMPLE records (R102). -/
theorem exec_rastSimple_dimensions (s : State) : ∃ t, exec .rastSimple s = .next t ∧
    t.rbW.toNat = effW s ∧ t.rbH.toNat = effHSimple s ∧
    t.hxl = lo8 (byteW s) ∧ t.hxh = hi8 (byteW s) ∧
    t.hyl = lo8 (effHSimple s) ∧ t.hyh = hi8 (effHSimple s) ∧ t.err = 0 :=
  ⟨_, exec_rastSimple s,
    s.setBlock_rbW_toNat (simpleBytes s) (effW_lt s) (effHSimple s),
    s.setBlock_rbH_toNat (simpleBytes s) (effW s) (effHSimple_lt s), rfl, rfl, rfl, rfl, rfl⟩

/-- The dimensions RAST.BAND records (R104). -/
theorem exec_rastBand_dimensions (s : State) : ∃ t, exec .rastBand s = .next t ∧
    t.rbW.toNat = effW s ∧ t.rbH.toNat = effHBand s ∧ t.err = 0 :=
  ⟨_, exec_rastBand s,
    s.setBlock_rbW_toNat (bandBytes s) (effW_lt s) (effHBand s),
    s.setBlock_rbH_toNat (bandBytes s) (effW s) (effHBand_lt s), rfl⟩

/-- Settles O9: the recorded dimensions are `floorTo 8` of the grid's, and the header bytes are the low and
high bytes of two numbers below 65536. -/
theorem rastSimpleDimensions : Obligations.RastSimpleDimensions := by
  intro s
  obtain ⟨t, ht, hw, hh, hxl, hxh, hyl, hyh, herr⟩ := exec_rastSimple_dimensions s
  refine ⟨t, ht, ?_⟩
  rw [hw, hh, hxl, hxh, hyl, hyh, lo8_toNat, lo8_toNat, hi8_toNat_of_lt (byteW_lt s),
    hi8_toNat_of_lt (effHSimple_lt s)]
  exact ⟨effW_eq s, effHSimple_eq s,
    dvd_floorTo _ _, floorTo_le _ _, sub_floorTo_le (by decide) _,
    dvd_floorTo _ _, floorTo_le _ _, sub_floorTo_le (by decide) _,
    rfl, rfl, rfl, rfl, herr⟩

/-- Settles O11: the recorded dimensions are `floorTo 8` and `floorTo 24` of the grid's, and a height of
whole bands holds as many as the grid (`nBands_eq`). -/
theorem rastBandDimensions : Obligations.RastBandDimensions := by
  intro s
  obtain ⟨t, ht, hw, hh, herr⟩ := exec_rastBand_dimensions s
  refine ⟨t, ht, ?_⟩
  rw [hw, hh]
  exact ⟨effW_eq s, effHBand_eq s,
    dvd_floorTo _ _, floorTo_le _ _, sub_floorTo_le (by decide) _,
    dvd_floorTo _ _, floorTo_le _ _, sub_floorTo_le (by decide) _,
    nBands_eq s, herr⟩

end Sys2Proof.Machine
end

