-- ==== Sys2Proof/Proofs/Barcode.lean ====
section
/-! The two framings of BARCODE (R121): what the operation answers on each side of the threshold, and the
frame it emits for a payload whose length PLEN states. -/

namespace Sys2Proof.Machine

/-! #### The operation, by its framing -/

/-- A code below the threshold: the NUL-terminated frame (R121). -/
theorem exec_barcode_nulFramed {s : State} (hsym : s.sym.toNat < 69) :
    exec .barcode s = .next ((s.emit (nulFrame s)).succeed) :=
  if_pos ((nulFramed_iff s).mpr hsym)

/-- A code at or above the threshold with a length one byte can state: the explicit-length frame (R121). -/
theorem exec_barcode_lengthFramed {s : State} (hsym : 69 ≤ s.sym.toNat) (hlen : s.plen.toNat ≤ 255) :
    exec .barcode s = .next ((s.emit (lengthFrame s)).succeed) := by
  have hform : nulFramed s = false := (nulFramed_eq_false_iff s).mpr hsym
  have hfits : lengthUnrepresentable s = false := (lengthUnrepresentable_eq_false_iff s).mpr hlen
  show execBarcode s = _
  simp only [execBarcode, hform, hfits, Bool.false_eq_true, if_false, emitAndSucceed]

/-! #### The frames of a payload of PLEN bytes -/

/-- Of the invariant, the payload read needs only that PLEN counts PAY (R16). -/
theorem payBytes_of_length {s : State} (h : s.pay.length = s.plen.toNat) : payBytes s = s.pay :=
  List.take_of_length_le h.le

theorem nulFrame_of_length {s : State} (h : s.pay.length = s.plen.toNat) :
    nulFrame s = [0x1D, 0x6B, s.sym] ++ s.pay ++ [0x00] := by
  rw [nulFrame, payBytes_of_length h, gs]

theorem lengthFrame_of_length {s : State} (h : s.pay.length = s.plen.toNat) :
    lengthFrame s = [0x1D, 0x6B, s.sym, lo8 s.plen.toNat] ++ s.pay := by
  rw [lengthFrame, payBytes_of_length h, gs]

/-! #### DOC0's examples -/

/-- `1234A` as Code128 (R124): the code 0x49 is at or above the threshold, so the length byte 05 stands
before the payload. -/
theorem exec_barcode_code128_1234A {s : State} (hsym : s.sym = symbologyCode .code128) (hplen : s.plen = 5)
    (hpay : s.pay = [0x31, 0x32, 0x33, 0x34, 0x41]) :
    exec .barcode s = .next { s with
      out := s.out ++ [0x1D, 0x6B, 0x49, 0x05, 0x31, 0x32, 0x33, 0x34, 0x41], err := 0 } := by
  have hcount : s.pay.length = s.plen.toNat := by rw [hpay, hplen]; rfl
  have hframe : lengthFrame s = [0x1D, 0x6B, 0x49, 0x05, 0x31, 0x32, 0x33, 0x34, 0x41] := by
    rw [lengthFrame_of_length hcount, hsym, hplen, hpay]; rfl
  rw [exec_barcode_lengthFramed (by rw [hsym]; decide) (by rw [hplen]; decide), hframe]
  rfl

/-- `123456789012` as UPC-A (R124): the code 0 is below the threshold, so a NUL ends the payload. -/
theorem exec_barcode_upcA_123456789012 {s : State} (hsym : s.sym = symbologyCode .upcA) (hplen : s.plen = 12)
    (hpay : s.pay = [0x31, 0x32, 0x33, 0x34, 0x35, 0x36, 0x37, 0x38, 0x39, 0x30, 0x31, 0x32]) :
    exec .barcode s = .next { s with
      out := s.out ++ [0x1D, 0x6B, 0x00, 0x31, 0x32, 0x33, 0x34, 0x35, 0x36, 0x37, 0x38, 0x39, 0x30,
        0x31, 0x32, 0x00], err := 0 } := by
  have hcount : s.pay.length = s.plen.toNat := by rw [hpay, hplen]; rfl
  have hframe : nulFrame s = [0x1D, 0x6B, 0x00, 0x31, 0x32, 0x33, 0x34, 0x35, 0x36, 0x37, 0x38, 0x39, 0x30,
      0x31, 0x32, 0x00] := by
    rw [nulFrame_of_length hcount, hsym, hpay]; rfl
  rw [exec_barcode_nulFramed (by rw [hsym]; decide), hframe]
  rfl

/-- Settles O22: the two examples lie on either side of the framing threshold. -/
theorem barcodeWorkedExamples : Obligations.BarcodeWorkedExamples :=
  fun _ => ⟨exec_barcode_code128_1234A, exec_barcode_upcA_123456789012⟩

end Sys2Proof.Machine
end

