-- ==== Sys2Proof/Proofs/QrCode.lean ====
section
/-! QRCODE (R130 to R138): what the operation answers on each side of the length check, what the length
pair of a frame states, and the module size clamped for step 2. -/

namespace Sys2Proof.Machine

/-! #### The operation, by its length check -/

/-- A payload that is too long: ERR and nothing else (R131). -/
theorem exec_qrcode_tooLong {s : State} (hlen : 7089 < s.plen.toNat) :
    exec .qrcode s = .next (s.raise .payloadTooLong) :=
  if_pos ((payloadTooLong_iff s).mpr hlen)

/-- A payload that passes the check: the five frames as one sequence (R138). -/
theorem exec_qrcode_fits {s : State} (hlen : s.plen.toNat ≤ 7089) :
    exec .qrcode s = .next ((s.emit (qrSequence s)).succeed) :=
  if_neg (Bool.eq_false_iff.mp ((payloadTooLong_eq_false_iff s).mpr hlen))

/-- The sequence appended whole is the five frames appended one behind the other (R130). -/
theorem append_qrSequence (bytes : List Byte) (s : State) :
    bytes ++ qrSequence s =
      bytes ++ qrStep1 s ++ qrStep2 s ++ qrStep3 s ++ qrStep4 s ++ qrStep5 s := by
  simp only [qrSequence, List.append_assoc]

/-! #### The length pair of a frame -/

/-- The length pair states the count of the bytes from functionGroup on (R132), where two bytes can. -/
theorem qrFrame_lengthPair (cfg : Config) (fn : Byte) {params : List Byte} (h : 2 + params.length < 65536) :
    ((qrFrame cfg fn params).getD 3 0).toNat + 256 * ((qrFrame cfg fn params).getD 4 0).toNat =
      2 + params.length :=
  pair16_value h

/-- Step 4 counts functionGroup, functionCode and the fixed byte besides the payload (R136). -/
theorem qrStep4_lengthPair {s : State} (hpay : s.pay.length = s.plen.toNat) (hlen : s.plen.toNat ≤ 7089) :
    ((qrStep4 s).getD 3 0).toNat + 256 * ((qrStep4 s).getD 4 0).toNat = s.plen.toNat + 3 := by
  have hcount : 2 + (s.cfg.qrStoreM :: payBytes s).length = s.plen.toNat + 3 := by
    rw [payBytes_of_length hpay, List.length_cons, hpay]; omega
  rw [qrStep4, qrFrame_lengthPair _ _ (by omega), hcount]

/-- Settles O23: the two sides of the check, and step 4's length pair for a payload of PLEN bytes. -/
theorem qrLengthCheckComesFirst : Obligations.QrLengthCheckComesFirst := by
  intro s
  refine ⟨exec_qrcode_tooLong, fun hlen => ?_, fun hinv hlen => ?_⟩
  · rw [exec_qrcode_fits hlen, ← append_qrSequence]; rfl
  · exact qrStep4_lengthPair (pay_length hinv.memory) hlen

/-! #### The clamp -/

theorem clamp_of_lt {lo v : Nat} (hi : Nat) (h : v < lo) : clamp lo hi v = lo := if_pos h

theorem clamp_of_mem {lo hi v : Nat} (hlo : lo ≤ v) (hhi : v ≤ hi) : clamp lo hi v = v := by
  rw [clamp, if_neg hlo.not_gt, if_neg hhi.not_gt]

theorem clamp_of_gt {lo hi v : Nat} (hle : lo ≤ hi) (h : hi < v) : clamp lo hi v = hi := by
  rw [clamp, if_neg (hle.trans_lt h).not_gt, if_pos h]

theorem clamp_mem {lo hi : Nat} (hle : lo ≤ hi) (v : Nat) : lo ≤ clamp lo hi v ∧ clamp lo hi v ≤ hi := by
  rw [clamp_eq_max_min lo hi v hle]
  exact ⟨le_max_left _ _, max_le hle (min_le_left _ _)⟩

/-! #### The module size -/

/-- The clamped size is at most 16, so the byte states it (R134). -/
theorem qrSize_toNat (s : State) : (qrSize s).toNat = clamp 1 16 s.qsize.toNat :=
  have small : clamp 1 16 s.qsize.toNat ≤ 16 := (clamp_mem (by decide) _).2
  Nat.mod_eq_of_lt (small.trans_lt (by decide))

/-- Step 2 byte for byte: functionGroup, functionCode and one parameter make its length pair `03 00`. -/
theorem qrStep2_eq (s : State) :
    qrStep2 s = [0x1D, 0x28, 0x6B, 0x03, 0x00, s.cfg.qrCn, s.cfg.qrFnSize, qrSize s] := by
  rw [qrStep2, qrFrame_eq, List.length_singleton]; rfl

/-- Settles O26: the size byte is the clamp of QSIZE, in each of the clamp's three cases. -/
theorem qrModuleSizeClamps : Obligations.QrModuleSizeClamps := by
  intro s
  obtain ⟨hlo, hhi⟩ := clamp_mem (by decide : 1 ≤ 16) s.qsize.toNat
  refine ⟨fun below => ?_, fun low high => ?_, fun above => ?_, ?_, ?_, qrStep2_eq s⟩
  · rw [qrSize_toNat, clamp_of_lt 16 below]
  · exact BitVec.eq_of_toNat_eq (by rw [qrSize_toNat, clamp_of_mem low high])
  · rw [qrSize_toNat, clamp_of_gt (by decide) above]
  · rwa [qrSize_toNat]
  · rwa [qrSize_toNat]

end Sys2Proof.Machine
end

