-- ==== Sys2Proof/Proofs/BandFrame.lean ====
section
/-! The Y advance (R154) as machine arithmetic, and the start-Y pair the positioning bytes show of it (R152). -/

namespace Sys2Proof.Machine

/-! #### The advance, word by word -/

/-- The low byte advances by the increment and wraps. -/
theorem advanceY_syl_eq_add (s : State) : (advanceY s).syl = s.syl + s.inc :=
  BitVec.eq_of_toNat_eq (by simp [yAdvanceSum])

/-- On overflow the accumulator takes the whole sum, not a carry of one. -/
theorem advanceY_syh_eq_add_of_overflow {s : State} (h : 255 < yAdvanceSum s) :
    (advanceY s).syh = s.syh + BitVec.ofNat 16 (yAdvanceSum s) :=
  BitVec.eq_of_toNat_eq (by simp [advanceY_syh_of_overflow h])

/-! #### The start-Y pair as emitted -/

theorem posBytes_startYLow (s : State) : (posBytes s).getD 4 0 = s.syl := rfl

/-- Of the 16-bit accumulator the low byte only is emitted (R19). -/
theorem posBytes_startYHigh (s : State) : (posBytes s).getD 5 0 = lo8 s.syh.toNat := rfl

/-! #### DOC0's example -/

/-- Settles O30: the sum is 260, above 255, so the low byte wraps to 4 and the accumulator takes all 260, whose
low byte is 4 again. -/
theorem yAdvanceWorkedExample : Obligations.YAdvanceWorkedExample := by
  intro s hsyl hinc
  have hsum : yAdvanceSum s = 260 := by rw [yAdvanceSum, hsyl, hinc]; rfl
  have hlow : (advanceY s).syl = 4 := by rw [advanceY_syl_eq_add, hsyl, hinc]; rfl
  have hhigh : (advanceY s).syh = s.syh + 260 := by
    rw [advanceY_syh_eq_add_of_overflow (by rw [hsum]; decide), hsum]; rfl
  refine ⟨hlow, hhigh, fun hzero => ⟨?_, ?_⟩⟩
  · rw [posBytes_startYLow, hlow]
  · rw [posBytes_startYHigh, hhigh, hzero]; rfl

end Sys2Proof.Machine
end

