-- ==== Sys2Proof/Proofs/Fixed.lean ====
section
/-! The fixed commands PRN.RESET, CUT.FULL and CUT.PARTIAL (R171 to R173): each emits a byte string that
depends on nothing, and succeeds. -/

namespace Sys2Proof.Machine

/-- The shared operation as one record update: OUT and ERR are its whole effect (R170). -/
theorem emitAndSucceed_eq (bytes : List Byte) (s : State) :
    emitAndSucceed bytes s = .next { s with out := s.out ++ bytes, err := 0 } := rfl

/-- PRN.RESET sends the printer's reset command; the block's own state stays (R171). -/
theorem exec_prnReset (s : State) :
    exec .prnReset s = .next { s with out := s.out ++ [0x1B, 0x40], err := 0 } :=
  emitAndSucceed_eq [esc, 0x40] s

/-- R172. -/
theorem exec_cutFull (s : State) :
    exec .cutFull s = .next { s with out := s.out ++ [0x1D, 0x56, 0x41, 0x00], err := 0 } :=
  emitAndSucceed_eq [gs, 0x56, 0x41, 0x00] s

/-- R173. -/
theorem exec_cutPartial (s : State) :
    exec .cutPartial s = .next { s with out := s.out ++ [0x1D, 0x56, 0x01], err := 0 } :=
  emitAndSucceed_eq [gs, 0x56, 0x01] s

/-- Settles O17: the codes are the encoding table's, and each operation is `emitAndSucceed` of its bytes. -/
theorem fixedCommandsEmitTheirBytes : Obligations.FixedCommandsEmitTheirBytes :=
  ⟨rfl, rfl, rfl, fun s => ⟨exec_prnReset s, exec_cutFull s, exec_cutPartial s⟩⟩

end Sys2Proof.Machine
end

