-- ==== Sys2Proof/Proofs/Exceptions.lean ====
section
/-! The error codes (R181): how each operation and each request ends, and from that which of them leaves
PayloadTooLong (R182). -/

namespace Sys2Proof.Machine

/-! #### How an operation and a request end -/

/-- The explicit-length framing of more bytes than its length byte can state: ERR and nothing else (R123). -/
theorem exec_barcode_lengthUnrepresentable {s : State} (hsym : 69 ≤ s.sym.toNat) (hlen : 255 < s.plen.toNat) :
    exec .barcode s = .next (s.raise .lengthUnrepresentable) :=
  (if_neg (Bool.eq_false_iff.mp ((nulFramed_eq_false_iff s).mpr hsym))).trans
    (if_pos ((lengthUnrepresentable_iff s).mpr hlen))

/-- An operation ends in success but for the checks of BARCODE (R123) and QRCODE (R131). -/
theorem exec_cases (i : Instr) (s : State) :
    (∃ u : State, exec i s = .next u.succeed) ∨
    (i = .barcode ∧ 69 ≤ s.sym.toNat ∧ 255 < s.plen.toNat ∧
      exec i s = .next (s.raise .lengthUnrepresentable)) ∨
    (i = .qrcode ∧ 7089 < s.plen.toNat ∧ exec i s = .next (s.raise .payloadTooLong)) := by
  cases i with
  | rastSimple | rastBand | prnReset | cutFull | cutPartial | setArea | frameBands => exact .inl ⟨_, rfl⟩
  | barcode =>
    rcases Nat.lt_or_ge s.sym.toNat 69 with hsym | hsym
    · exact .inl ⟨_, exec_barcode_nulFramed hsym⟩
    · rcases Nat.lt_or_ge 255 s.plen.toNat with hlen | hlen
      · exact .inr (.inl ⟨rfl, hsym, hlen, exec_barcode_lengthUnrepresentable hsym hlen⟩)
      · exact .inl ⟨_, exec_barcode_lengthFramed hsym hlen⟩
  | qrcode =>
    rcases Nat.lt_or_ge 7089 s.plen.toNat with hlen | hlen
    · exact .inr (.inr ⟨rfl, hlen, exec_qrcode_tooLong hlen⟩)
    · exact .inl ⟨_, exec_qrcode_fits hlen⟩

/-- A request ends in success or in one of the three errors the block raises (R180 to R185), each with its
condition. -/
theorem request_ends (v : Byte) (s : State) :
    (∃ u : State, request v s = .next u.succeed) ∨
    (v = opSelCode .barcode ∧ 69 ≤ s.sym.toNat ∧ 255 < s.plen.toNat ∧
      request v s = .next (s.raise .lengthUnrepresentable)) ∨
    (v = opSelCode .qrcode ∧ 7089 < s.plen.toNat ∧ request v s = .next (s.raise .payloadTooLong)) ∨
    ((∀ i, opSelCode i ≠ v) ∧ request v s = .next (s.raise .illegalOperation)) := by
  rcases request_cases v s with ⟨i, rfl, hexec⟩ | illegal
  · rw [hexec]
    rcases exec_cases i s with success | ⟨rfl, hsym, hlen, herr⟩ | ⟨rfl, hlen, herr⟩
    · exact .inl success
    · exact .inr (.inl ⟨rfl, hsym, hlen, herr⟩)
    · exact .inr (.inr (.inl ⟨rfl, hlen, herr⟩))
  · exact .inr (.inr (.inr illegal))

/-! #### PayloadTooLong -/

/-- QRCODE's code with too long a payload: ERR and nothing else (R131). -/
theorem request_qrcode_tooLong {s : State} (hlen : 7089 < s.plen.toNat) :
    request 0x21 s = .next (s.raise .payloadTooLong) :=
  (request_opSelCode .qrcode s).trans (exec_qrcode_tooLong hlen)

/-- Code 1 after a request tells its byte, its condition and its whole effect: the other three ends leave
0, 3 and 4. -/
theorem request_err_eq_one {v : Byte} {s t : State} (ht : request v s = .next t) (hone : t.err = 1) :
    v = 0x21 ∧ 7089 < s.plen.toNat ∧ t = s.raise .payloadTooLong := by
  rcases request_ends v s with ⟨u, hr⟩ | ⟨-, -, -, hr⟩ | ⟨hv, hlen, hr⟩ | ⟨-, hr⟩ <;>
    obtain rfl := Host.Outcome.next.inj (ht.symm.trans hr)
  · exact absurd hone (by decide : (0 : Byte) ≠ 1)
  · exact absurd hone (by decide : errorCode .lengthUnrepresentable ≠ 1)
  · exact ⟨hv, hlen, rfl⟩
  · exact absurd hone (by decide : errorCode .illegalOperation ≠ 1)

/-- Settles O6: code 1 is the end of the length check alone, and `raise` appends nothing to OUT. -/
theorem payloadTooLongExactlyWhen : Obligations.PayloadTooLongExactlyWhen := by
  intro v s t ht
  refine ⟨⟨fun hone => ?_, ?_⟩, fun hone => ?_⟩
  · obtain ⟨hv, hlen, -⟩ := request_err_eq_one ht hone
    exact ⟨hv, hlen⟩
  · rintro ⟨rfl, hlen⟩
    obtain rfl := Host.Outcome.next.inj (ht.symm.trans (request_qrcode_tooLong hlen))
    rfl
  · obtain ⟨-, -, rfl⟩ := request_err_eq_one ht hone
    rfl

end Sys2Proof.Machine
end

