-- ==== Sys2Proof/Proofs/Other.lean ====
section
/-! The rest of the statements: requests and how they end, what each operation emits and packs, the closed
form of an operation with what it reads and writes, the invariant and the steps, the host interface, and the
front end's grid. -/

namespace Sys2Proof

/-! ### Requests as bytes (R60, R61, R71) -/

/-- The nine codes of R61, from the outside: a byte that is none of them is no operation's. -/
theorem not_mem_codes_iff (b : Byte) :
    b ∉ ([0x01, 0x02, 0x10, 0x11, 0x12, 0x13, 0x20, 0x21, 0x22] : List Byte) ↔ ∀ i, opSelCode i ≠ b := by
  rw [mem_codes_iff, not_exists]

/-- A byte that is no operation's code is rejected by name (R71). -/
theorem decode_illegal {b : Byte} (h : ∀ i, opSelCode i ≠ b) (rest : List Byte) :
    decode (b :: rest) = .rejected (.illegalOpSelect b) := by
  rcases decode_byte_cases b rest with ⟨i, -, hc⟩ | ⟨hd, -⟩
  · exact absurd hc (h i)
  · exact hd

/-- Settles O1: each code is `opSelCode` of its operation, and the codes are no more than these nine. -/
theorem opSelectCodesDecode : Obligations.OpSelectCodesDecode :=
  ⟨decode_opSelCode .rastSimple [], decode_opSelCode .rastBand [], decode_opSelCode .prnReset [],
    decode_opSelCode .cutFull [], decode_opSelCode .cutPartial [], decode_opSelCode .setArea [],
    decode_opSelCode .barcode [], decode_opSelCode .qrcode [], decode_opSelCode .frameBands [],
    fun b hb => decode_illegal ((not_mem_codes_iff b).mp hb) []⟩

/-! #### Sequences of requests -/

theorem encodeAll_cons (i : Instr) (is : List Instr) : encodeAll (i :: is) = opSelCode i :: encodeAll is := rfl

/-- An operation's code at the front decodes to it, whatever becomes of the rest. -/
theorem decodeAll_opSelCode_cons (i : Instr) (bs : List Byte) :
    decodeAll (opSelCode i :: bs) = (decodeAll bs).map (i :: ·) := by
  simp only [decodeAll, decode_opSelCode]
  cases decodeAll bs <;> rfl

/-- An illegal byte at the front rejects the sequence. -/
theorem decodeAll_illegal_cons {b : Byte} (h : ∀ i, opSelCode i ≠ b) (bs : List Byte) :
    decodeAll (b :: bs) = .error (.illegalOpSelect b) := by
  simp only [decodeAll, decode_illegal h]

/-- Every sequence of operations is read back from its encoding. -/
theorem decodeAll_encodeAll (is : List Instr) : decodeAll (encodeAll is) = .ok is := by
  induction is with
  | nil => rfl
  | cons i is ih => rw [encodeAll_cons, decodeAll_opSelCode_cons, ih]; rfl

/-- Bytes that decode are the encoding of what they decode to. -/
theorem encodeAll_of_decodeAll {bs : List Byte} {is : List Instr} (h : decodeAll bs = .ok is) :
    encodeAll is = bs := by
  induction bs generalizing is with
  | nil => cases h; rfl
  | cons b bs ih =>
    rcases decode_byte_cases b [] with ⟨i, -, rfl⟩ | ⟨-, illegal⟩
    · rw [decodeAll_opSelCode_cons] at h
      cases htail : decodeAll bs with
      | error why => rw [htail] at h; cases h
      | ok js => rw [htail] at h; cases h; rw [encodeAll_cons, ih htail]
    · rw [decodeAll_illegal_cons illegal] at h; cases h

/-- Settles O2: both directions by induction, on the operations and on the bytes. -/
theorem requestSequencesRoundTrip : Obligations.RequestSequencesRoundTrip :=
  ⟨decodeAll_encodeAll, fun _ _ => encodeAll_of_decodeAll⟩

/-! ### The configuration's constraints (R5) -/

/-- The constraints of decision D22, one by one. -/
theorem Config.wf_iff (c : Config) : c.wf = true ↔
    c.qrModelByte0 ≠ c.qrModelByte1 ∧ c.qrEcHi.toNat = c.qrEcLo.toNat + 3 ∧ c.qrPrintTail.length ≤ 253 := by
  simp [Config.wf, and_assoc]

end Sys2Proof

namespace Sys2Proof.Machine

/-! ### Requests as steps, and how they end (R13, R180 to R189) -/

/-- A host write of a byte to CMD is a step that performs its request (R13). -/
theorem step_request {s : State} {v : Byte} {rest : List Action}
    (h : s.script = .writeReg 0x00 (v.setWidth 16) :: rest) : step s = request v (s.setScript rest) :=
  (step_action h).trans (hostWriteReg_cmd v _)

theorem request_of_decode {v : Byte} {i : Instr} (h : decode [v] = .instr i []) (s : State) :
    request v s = exec i s := by
  simp only [request, h]

/-- An illegal byte: ERR and nothing else (R185). -/
theorem request_illegal {v : Byte} (h : ∀ i, opSelCode i ≠ v) (s : State) :
    request v s = .next (s.raise .illegalOperation) := by
  simp only [request, decode_illegal h]

/-- Settles O3: the write is the byte's request, and the request is what the byte decodes to. -/
theorem stepRunsTheRequestedOperation : Obligations.StepRunsTheRequestedOperation :=
  fun _ _ _ _ hs hd _ => (step_request hs).trans (request_of_decode hd _)

/-- Settles O4: the write is the byte's request, which raises IllegalOperation. -/
theorem illegalRequestOnlySetsErr : Obligations.IllegalRequestOnlySetsErr :=
  fun _ v _ hs hv => (step_request hs).trans (request_illegal ((not_mem_codes_iff v).mp hv) _)

/-- Settles O20: the check comes before any byte is emitted, and `raise` writes ERR only. -/
theorem barcodeLengthUnrepresentable : Obligations.BarcodeLengthUnrepresentable :=
  fun _ => exec_barcode_lengthUnrepresentable

/-- Every request answers a next state. -/
theorem request_answers (v : Byte) (s : State) : ∃ t, request v s = .next t := by
  rcases request_ends v s with ⟨u, hr⟩ | ⟨-, -, -, hr⟩ | ⟨-, -, hr⟩ | ⟨-, hr⟩
  all_goals exact ⟨_, hr⟩

/-- What a request's next state tells of it: success, or an error with its condition and its whole effect. -/
theorem request_next_cases {v : Byte} {s t : State} (ht : request v s = .next t) :
    t.err = 0 ∨
    (v = opSelCode .barcode ∧ 69 ≤ s.sym.toNat ∧ 255 < s.plen.toNat ∧ t = s.raise .lengthUnrepresentable) ∨
    (v = opSelCode .qrcode ∧ 7089 < s.plen.toNat ∧ t = s.raise .payloadTooLong) ∨
    ((∀ i, opSelCode i ≠ v) ∧ t = s.raise .illegalOperation) := by
  rcases request_ends v s with ⟨u, hr⟩ | ⟨hv, hsym, hlen, hr⟩ | ⟨hv, hlen, hr⟩ | ⟨illegal, hr⟩ <;>
    obtain rfl := Host.Outcome.next.inj (ht.symm.trans hr)
  · exact .inl rfl
  · exact .inr (.inl ⟨hv, hsym, hlen, rfl⟩)
  · exact .inr (.inr (.inl ⟨hv, hlen, rfl⟩))
  · exact .inr (.inr (.inr ⟨illegal, rfl⟩))

/-- ERR after a request is 0, 1, 3 or 4. -/
theorem request_err_mem {v : Byte} {s t : State} (ht : request v s = .next t) : t.err ∈ errCodes := by
  rcases request_next_cases ht with h | ⟨-, -, -, rfl⟩ | ⟨-, -, rfl⟩ | ⟨-, rfl⟩
  · rw [h]; decide
  · exact (by decide : errorCode .lengthUnrepresentable ∈ errCodes)
  · exact (by decide : errorCode .payloadTooLong ∈ errCodes)
  · exact (by decide : errorCode .illegalOperation ∈ errCodes)

/-- Code 3 is the end of BARCODE's check alone (R184). -/
theorem request_err_eq_three_iff {v : Byte} {s t : State} (ht : request v s = .next t) :
    t.err = 3 ↔ v = 0x20 ∧ 69 ≤ s.sym.toNat ∧ 255 < s.plen.toNat := by
  constructor
  · intro three
    rcases request_next_cases ht with h | ⟨hv, hsym, hlen, -⟩ | ⟨-, -, rfl⟩ | ⟨-, rfl⟩
    · exact absurd (h.symm.trans three) (by decide)
    · exact ⟨hv, hsym, hlen⟩
    · exact absurd three (by decide : errorCode .payloadTooLong ≠ 3)
    · exact absurd three (by decide : errorCode .illegalOperation ≠ 3)
  · rintro ⟨rfl, hsym, hlen⟩
    have hr := (request_opSelCode .barcode s).trans (exec_barcode_lengthUnrepresentable hsym hlen)
    obtain rfl := Host.Outcome.next.inj (ht.symm.trans hr)
    rfl

/-- Code 4 is the end of an illegal byte alone (R185). -/
theorem request_err_eq_four_iff {v : Byte} {s t : State} (ht : request v s = .next t) :
    t.err = 4 ↔ ∀ i, opSelCode i ≠ v := by
  constructor
  · intro four
    rcases request_next_cases ht with h | ⟨-, -, -, rfl⟩ | ⟨-, -, rfl⟩ | ⟨illegal, -⟩
    · exact absurd (h.symm.trans four) (by decide)
    · exact absurd four (by decide : errorCode .lengthUnrepresentable ≠ 4)
    · exact absurd four (by decide : errorCode .payloadTooLong ≠ 4)
    · exact illegal
  · intro illegal
    obtain rfl := Host.Outcome.next.inj (ht.symm.trans (request_illegal illegal s))
    rfl

/-- Settles O5: a request answers in every state, so in the state it leaves too. -/
theorem everyRequestEndsInSuccessOrError : Obligations.EveryRequestEndsInSuccessOrError := by
  intro v s
  obtain ⟨t, ht⟩ := request_answers v s
  exact ⟨t, ht, by simpa [errCodes] using request_err_mem ht, fun v' => request_answers v' t⟩

/-- Settles O7: the two conditions, and the codes that are left at all. -/
theorem errorCodesExactlyWhen : Obligations.ErrorCodesExactlyWhen := by
  intro v s t ht
  have legal : ∀ e ∈ errCodes, e ≠ 2 ∧ e.toNat < 5 := by decide
  exact ⟨request_err_eq_three_iff ht, (request_err_eq_four_iff ht).trans (not_mem_codes_iff v).symm,
    legal t.err (request_err_mem ht)⟩

/-- Settles O8: each of the three errors is the state with `raise`. -/
theorem errorsArePrecise : Obligations.ErrorsArePrecise := by
  intro v s t ht herr
  rcases request_next_cases ht with h | ⟨-, -, -, rfl⟩ | ⟨-, -, rfl⟩ | ⟨-, rfl⟩
  · exact absurd h herr
  all_goals rfl

/-! ### The Rasterizer's block (R82, R101 to R108) -/

/-- The byte width of a 16-bit width takes five bits of the high header byte (R22, R102). -/
theorem headerWidth_le (s : State) : (hi8 (byteW s)).toNat ≤ 31 := by
  have hw := s.w.isLt
  rw [hi8_toNat_of_lt (byteW_lt s), byteW_eq]; omega

/-- The byte at `y * byteW + b` of the simple layout, with its bits (R101). -/
theorem simpleBytes_bits (s : State) {y b : Nat} (hy : y < effHSimple s) (hb : b < byteW s) :
    ∃ byte, (simpleBytes s)[y * byteW s + b]? = some byte ∧
      ∀ k, k < 8 → byte.getLsbD (7 - k) = s.cell y (8 * b + k) :=
  ⟨_, simpleBytes_get s hy hb, fun _ hk => simpleByte_bit s y b hk⟩

/-- The byte at `i * 3 * effW + 3 * j + k` of the band layout, with its bits (R105, R106). -/
theorem bandBytes_bits (s : State) {i j k : Nat} (hi : i < nBands s) (hj : j < effW s) (hk : k < 3) :
    ∃ byte, (bandBytes s)[i * (3 * effW s) + 3 * j + k]? = some byte ∧
      ∀ r, r < 8 → byte.getLsbD (7 - r) = s.cell (24 * i + 8 * k + r) j :=
  ⟨_, bandBytes_get s hi hj hk, fun _ hr => bandByte_bit s i j k hr⟩

/-- The bit of cell `(r, c)` in the simple layout (R82). -/
theorem simpleBytes_cell (s : State) {r c : Nat} (hr : r < effHSimple s) (hc : c < effW s) :
    ∃ byte, (simpleBytes s)[r * byteW s + c / 8]? = some byte ∧ byte.getLsbD (7 - c % 8) = s.cell r c := by
  have hb : c / 8 < byteW s := by rw [effW_eq] at hc; rw [byteW_eq]; omega
  obtain ⟨byte, hbyte, hbits⟩ := simpleBytes_bits s hr hb
  exact ⟨byte, hbyte, by rw [hbits _ (Nat.mod_lt c (by decide)), Nat.div_add_mod]⟩

/-- The bit of cell `(r, c)` in the band layout (R82). -/
theorem bandBytes_cell (s : State) {r c : Nat} (hr : r < effHBand s) (hc : c < effW s) :
    ∃ byte, (bandBytes s)[r / 24 * (3 * effW s) + 3 * c + r % 24 / 8]? = some byte ∧
      byte.getLsbD (7 - r % 8) = s.cell r c := by
  have hi : r / 24 < nBands s := by rw [effHBand_eq] at hr; rw [nBands_eq]; omega
  have hrow : 24 * (r / 24) + 8 * (r % 24 / 8) + r % 8 = r := by omega
  obtain ⟨byte, hbyte, hbits⟩ := bandBytes_bits s hi hc (by omega : r % 24 / 8 < 3)
  exact ⟨byte, hbyte, by rw [hbits _ (Nat.mod_lt r (by decide)), hrow]⟩

/-- The block RAST.SIMPLE leaves (R103). -/
theorem exec_rastSimple_block (s : State) : ∃ t, exec .rastSimple s = .next t ∧
    t.rb = simpleBytes s ∧ t.rbW.toNat = effW s ∧ t.rbH.toNat = effHSimple s :=
  ⟨_, exec_rastSimple s, rfl, s.setBlock_rbW_toNat (simpleBytes s) (effW_lt s) (effHSimple s),
    s.setBlock_rbH_toNat (simpleBytes s) (effW s) (effHSimple_lt s)⟩

/-- The block RAST.BAND leaves (R107). -/
theorem exec_rastBand_block (s : State) : ∃ t, exec .rastBand s = .next t ∧
    t.rb = bandBytes s ∧ t.rbW.toNat = effW s ∧ t.rbH.toNat = effHBand s :=
  ⟨_, exec_rastBand s, rfl, s.setBlock_rbW_toNat (bandBytes s) (effW_lt s) (effHBand s),
    s.setBlock_rbH_toNat (bandBytes s) (effW s) (effHBand_lt s)⟩

/-- Settles O10: the block is `simpleBytes`, read at its index. -/
theorem rastSimpleBytes : Obligations.RastSimpleBytes := by
  intro s
  refine ⟨_, exec_rastSimple s, ?_, fun y b hy hb => ?_⟩
  · rw [Nat.mul_comm, ← effHSimple_eq, ← byteW_eq]; exact simpleBytes_length s
  · rw [← byteW_eq] at hb ⊢
    exact simpleBytes_bits s hy hb

/-- Settles O12: the two operations are record updates of these fields. -/
theorem rasterizingFrames : Obligations.RasterizingFrames :=
  fun s => ⟨_, _, exec_rastSimple s, exec_rastBand s, headerWidth_le s, rfl, rfl⟩

/-- Settles O13: the block is `bandBytes`, read at its index. -/
theorem rastBandBytes : Obligations.RastBandBytes := by
  intro s
  refine ⟨_, exec_rastBand s, ?_, fun i j k hi hj hk => ?_⟩
  · calc (bandBytes s).length = nBands s * (3 * effW s) := bandBytes_length s
      _ = s.h.toNat / 24 * (8 * (s.w.toNat / 8)) * 3 := by rw [nBands_eq, effW_eq]; ring
  · rw [← nBands_eq] at hi
    exact bandBytes_bits s hi hj hk

/-- Settles O14: the recorded dimensions are the effective ones, and each layout is inverted by division. -/
theorem everyEffectiveCellHasItsBit : Obligations.EveryEffectiveCellHasItsBit := by
  intro s
  obtain ⟨a, ha, hrbA, hwA, hhA⟩ := exec_rastSimple_block s
  obtain ⟨b, hb, hrbB, hwB, hhB⟩ := exec_rastBand_block s
  refine ⟨a, b, ha, hb, ?_, ?_⟩
  · rw [hrbA, hwA, hhA]
    exact fun r c => simpleBytes_cell s
  · rw [hrbB, hwB, hhB]
    exact fun r c => bandBytes_cell s

/-- The effective dimensions are functions of W and H. -/
theorem effW_congr {a b : State} (h : a.w = b.w) : effW a = effW b := by simp only [effW, h]

theorem effHSimple_congr {a b : State} (h : a.h = b.h) : effHSimple a = effHSimple b := by
  simp only [effHSimple, h]

theorem effHBand_congr {a b : State} (h : a.h = b.h) : effHBand a = effHBand b := by simp only [effHBand, h]

/-- Settles O15: both packings and both sets of dimensions depend on W, H and the effective cells only. -/
theorem droppedCellsAreNeverRead : Obligations.DroppedCellsAreNeverRead := by
  intro a b hw hh
  have width := congrArg (BitVec.ofNat 16) (effW_congr hw)
  have rows := congrArg (BitVec.ofNat 16) (effHSimple_congr hh)
  have bands := congrArg (BitVec.ofNat 16) (effHBand_congr hh)
  exact ⟨fun cells => ⟨_, _, exec_rastSimple a, exec_rastSimple b, simpleBytes_congr hw hh cells,
      width, rows, rfl, rfl⟩,
    fun cells => ⟨_, _, exec_rastBand a, exec_rastBand b, bandBytes_congr hw hh cells,
      width, bands, rfl, rfl⟩⟩

/-- Settles O16: what is packed depends on the grid alone, which neither operation writes. -/
theorem rasterizingIsIdempotent : Obligations.RasterizingIsIdempotent := by
  intro s t u ht hu
  obtain rfl := Host.Outcome.next.inj ((exec_rastSimple s).symm.trans ht)
  obtain rfl := Host.Outcome.next.inj ((exec_rastBand s).symm.trans hu)
  exact ⟨rfl, rfl, ⟨_, rfl, rfl, rfl, rfl⟩, rfl⟩

/-! ### What the framers emit: SET.AREA, BARCODE and QRCODE (R65, R120 to R138, R174) -/

/-- SET.AREA as one record update (R174). -/
theorem exec_setArea (s : State) :
    exec .setArea s = .next { s with out := s.out ++ posBytes s, err := 0 } :=
  emitAndSucceed_eq (posBytes s) s

/-- Settles O18: the bytes are `posBytes`, in which SYH stands as its low byte. -/
theorem setAreaEmitsTenBytes : Obligations.SetAreaEmitsTenBytes :=
  fun s => ⟨lo8 s.syh.toNat, lo8_toNat _, exec_setArea s⟩

/-! #### BARCODE -/

/-- Settles O19: the frame of each side of the threshold, for a payload of PLEN bytes. -/
theorem barcodeFraming : Obligations.BarcodeFraming := by
  intro s hinv
  have hpay := pay_length hinv.memory
  refine ⟨fun hsym => ?_, fun hsym hlen => ⟨lo8 s.plen.toNat, ?_, ?_⟩⟩
  · rw [exec_barcode_nulFramed (Nat.lt_succ_of_le hsym), nulFrame_of_length hpay]; rfl
  · rw [lo8_toNat, hpay, Nat.mod_eq_of_lt (Nat.lt_succ_of_le hlen)]
  · rw [exec_barcode_lengthFramed hsym hlen, lengthFrame_of_length hpay]; rfl

theorem nulFrame_length {s : State} (hpay : s.pay.length = s.plen.toNat) :
    (nulFrame s).length = s.plen.toNat + 4 := by
  simp [nulFrame_of_length hpay, hpay]

theorem lengthFrame_length {s : State} (hpay : s.pay.length = s.plen.toNat) :
    (lengthFrame s).length = s.plen.toNat + 4 := by
  simp [lengthFrame_of_length hpay, hpay]

/-- Settles O21: both frames have four bytes besides the payload, and the third end is an error. -/
theorem barcodeAppendsPlenPlusFour : Obligations.BarcodeAppendsPlenPlusFour := by
  intro s t hinv ht herr
  have hpay := pay_length hinv.memory
  rcases Nat.lt_or_ge s.sym.toNat 69 with hsym | hsym
  · obtain rfl := Host.Outcome.next.inj ((exec_barcode_nulFramed hsym).symm.trans ht)
    exact ⟨_, rfl, nulFrame_length hpay⟩
  · rcases Nat.lt_or_ge 255 s.plen.toNat with hlen | hlen
    · obtain rfl := Host.Outcome.next.inj ((exec_barcode_lengthUnrepresentable hsym hlen).symm.trans ht)
      exact absurd herr (by decide : errorCode .lengthUnrepresentable ≠ 0)
    · obtain rfl := Host.Outcome.next.inj ((exec_barcode_lengthFramed hsym hlen).symm.trans ht)
      exact ⟨_, rfl, lengthFrame_length hpay⟩

/-! #### QRCODE -/

/-- The clamped level lies between two bytes, so a byte states it (R135). -/
theorem qrLevel_toNat {s : State} (h : s.cfg.qrEcLo.toNat ≤ s.cfg.qrEcHi.toNat) :
    (qrLevel s).toNat = clamp s.cfg.qrEcLo.toNat s.cfg.qrEcHi.toNat s.qec.toNat :=
  Nat.mod_eq_of_lt ((clamp_mem h _).2.trans_lt s.cfg.qrEcHi.isLt)

/-- Step 1 byte for byte: two parameters make its length pair `04 00` (R133). -/
theorem qrStep1_eq (s : State) : qrStep1 s =
    [0x1D, 0x28, 0x6B, 0x04, 0x00, s.cfg.qrCn, s.cfg.qrFnModel, qrModelByte s, s.cfg.qrModelSub] := by
  rw [qrStep1, qrFrame_eq, List.length_cons, List.length_singleton]; rfl

/-- Step 3 byte for byte: one parameter makes its length pair `03 00` (R135). -/
theorem qrStep3_eq (s : State) :
    qrStep3 s = [0x1D, 0x28, 0x6B, 0x03, 0x00, s.cfg.qrCn, s.cfg.qrFnEc, qrLevel s] := by
  rw [qrStep3, qrFrame_eq, List.length_singleton]; rfl

/-- Step 4 byte for byte: the length pair counts three bytes besides the payload (R136). -/
theorem qrStep4_eq {s : State} (hpay : s.pay.length = s.plen.toNat) : qrStep4 s =
    [0x1D, 0x28, 0x6B, lo8 (s.plen.toNat + 3), hi8 (s.plen.toNat + 3), s.cfg.qrCn, s.cfg.qrFnStore,
      s.cfg.qrStoreM] ++ s.pay := by
  have hcount : 2 + (s.cfg.qrStoreM :: s.pay).length = s.plen.toNat + 3 := by
    rw [List.length_cons, hpay]; omega
  rw [qrStep4, payBytes_of_length hpay, qrFrame_eq, hcount]; rfl

/-- Step 5 byte for byte: a tail of at most 253 bytes leaves the high byte of the length pair 0 (R137). -/
theorem qrStep5_eq {s : State} (htail : s.cfg.qrPrintTail.length ≤ 253) : qrStep5 s =
    [0x1D, 0x28, 0x6B, lo8 (2 + s.cfg.qrPrintTail.length), 0x00, s.cfg.qrCn, s.cfg.qrFnPrint] ++
      s.cfg.qrPrintTail := by
  have hhigh : hi8 (2 + s.cfg.qrPrintTail.length) = 0x00 :=
    BitVec.eq_of_toNat_eq (by rw [hi8_toNat]; show _ = 0; omega)
  rw [qrStep5, qrFrame_eq, hhigh]; rfl

/-- Settles O24: the five steps byte for byte; the clamped values are read, and not written back. -/
theorem qrFiveFrames : Obligations.QrFiveFrames := by
  intro s hinv hlen
  have hpay := pay_length hinv.memory
  obtain ⟨-, hlevels, htail⟩ := (Config.wf_iff s.cfg).mp hinv.config
  have hlohi : s.cfg.qrEcLo.toNat ≤ s.cfg.qrEcHi.toNat := hlevels ▸ Nat.le_add_right _ 3
  refine ⟨qrSize s, qrLevel s, lo8 (s.plen.toNat + 3), hi8 (s.plen.toNat + 3),
    lo8 (2 + s.cfg.qrPrintTail.length), ?_, ?_, lo8_toNat _, hi8_toNat_of_lt (by omega), ?_, ?_⟩
  · rw [qrSize_toNat, clamp_eq_max_min _ _ _ (by decide)]
  · rw [qrLevel_toNat hlohi, clamp_eq_max_min _ _ _ hlohi]
  · rw [lo8_toNat]; omega
  · rw [exec_qrcode_fits hlen, qrSequence, qrStep1_eq, qrStep2_eq, qrStep3_eq, qrStep4_eq hpay,
      qrStep5_eq htail]; rfl

theorem qrSequence_length {s : State} (hpay : s.pay.length = s.plen.toNat) :
    (qrSequence s).length = s.plen.toNat + 40 + s.cfg.qrPrintTail.length := by
  simp only [qrSequence, qrStep1, qrStep2, qrStep3, qrStep4, qrStep5, List.length_append, qrFrame_length,
    List.length_cons, List.length_nil, payBytes_of_length hpay, hpay]
  omega

/-- Settles O25: five headers of seven bytes and five parameter bytes besides the payload and the tail. -/
theorem qrAppendedLength : Obligations.QrAppendedLength := by
  intro s t hinv ht herr
  rcases Nat.lt_or_ge 7089 s.plen.toNat with hlen | hlen
  · obtain rfl := Host.Outcome.next.inj ((exec_qrcode_tooLong hlen).symm.trans ht)
    exact absurd herr (by decide : errorCode .payloadTooLong ≠ 0)
  · obtain rfl := Host.Outcome.next.inj ((exec_qrcode_fits hlen).symm.trans ht)
    exact ⟨_, rfl, qrSequence_length (pay_length hinv.memory)⟩

/-- Settles O27: the level byte is the clamp of QEC, in each of the clamp's three cases. -/
theorem qrLevelClamps : Obligations.QrLevelClamps := by
  intro s hinv
  obtain ⟨-, hlevels, -⟩ := (Config.wf_iff s.cfg).mp hinv.config
  have hlohi : s.cfg.qrEcLo.toNat ≤ s.cfg.qrEcHi.toNat := hlevels ▸ Nat.le_add_right _ 3
  refine ⟨fun below => ?_, fun low high => ?_, fun above => ?_, hlevels, qrStep3_eq s⟩ <;>
    apply BitVec.eq_of_toNat_eq
  · rw [qrLevel_toNat hlohi, clamp_of_lt _ below]
  · rw [qrLevel_toNat hlohi, clamp_of_mem low high]
  · rw [qrLevel_toNat hlohi, clamp_of_gt hlohi above]

/-- A frame's length pair is the number of bytes from functionGroup on, where two bytes can state it (R65). -/
theorem qrFrame_lengthPair_drop (cfg : Config) (fn : Byte) {params : List Byte}
    (h : 2 + params.length < 65536) :
    ((qrFrame cfg fn params).getD 3 0).toNat + 256 * ((qrFrame cfg fn params).getD 4 0).toNat =
      ((qrFrame cfg fn params).drop 5).length := by
  rw [qrFrame_lengthPair cfg fn h, List.length_drop, qrFrame_length]; omega

/-- Settles O28: all five frames are `qrFrame`s of few enough parameters, and PLEN counts the payload. -/
theorem lengthPrefixesAreExact : Obligations.LengthPrefixesAreExact := by
  intro s hinv
  have hpay := pay_length hinv.memory
  obtain ⟨-, -, htail⟩ := (Config.wf_iff s.cfg).mp hinv.config
  refine ⟨fun hlen => ?_, fun hlen frame hframe => ?_⟩
  · rw [List.length_drop, lengthFrame_length hpay, lengthFrame_of_length hpay]
    exact (lo8_toNat _).trans (Nat.mod_eq_of_lt (Nat.lt_succ_of_le hlen))
  · have hstore : 2 + (s.cfg.qrStoreM :: payBytes s).length < 65536 := by
      rw [List.length_cons, payBytes_of_length hpay, hpay]; omega
    simp only [List.mem_cons, List.not_mem_nil, or_false] at hframe
    rcases hframe with rfl | rfl | rfl | rfl | rfl
    · exact qrFrame_lengthPair_drop _ _ (by simp)
    · exact qrFrame_lengthPair_drop _ _ (by simp)
    · exact qrFrame_lengthPair_drop _ _ (by simp)
    · exact qrFrame_lengthPair_drop _ _ hstore
    · exact qrFrame_lengthPair_drop _ _ (by omega)

/-! ### The Y advance and FRAME.BANDS (R150 to R157) -/

/-- Any number of advances keeps the increment. -/
theorem advanceY_iterate_inc (n : Nat) (s : State) : (advanceY^[n] s).inc = s.inc := by
  rw [advanceY_iterate_frame]; rfl

/-- After any number of advances the start-Y pair is a function of the start-Y pair and the increment. -/
theorem advanceY_iterate_congr {a b : State} (hl : a.syl = b.syl) (hh : a.syh = b.syh) (hi : a.inc = b.inc)
    (n : Nat) : (advanceY^[n] a).syl = (advanceY^[n] b).syl ∧ (advanceY^[n] a).syh = (advanceY^[n] b).syh := by
  induction n with
  | zero => exact ⟨hl, hh⟩
  | succ n ih =>
    rw [Function.iterate_succ_apply', Function.iterate_succ_apply']
    exact advanceY_congr ih.1 ih.2 (by rw [advanceY_iterate_inc, advanceY_iterate_inc, hi])

/-- The emitted byte of the accumulator grows by the new low byte on overflow, and stays otherwise (R154). -/
theorem lo8_advanceY_syh (s : State) : lo8 (advanceY s).syh.toNat =
    lo8 s.syh.toNat + if 255 < yAdvanceSum s then (advanceY s).syl else 0 := by
  split
  case isTrue h =>
    refine BitVec.eq_of_toNat_eq ?_
    simp only [advanceY_syh_of_overflow h, advanceY_syl, lo8_toNat, BitVec.toNat_add, BitVec.toNat_ofNat]
    omega
  case isFalse h => rw [advanceY_syh_of_le (Nat.not_lt.mp h)]; exact (BitVec.add_zero _).symm

/-- Settles O29: the two cases of the sum, and the frame. -/
theorem yAdvance : Obligations.YAdvance := by
  intro s
  refine ⟨by simp [yAdvanceSum], fun h => ⟨?_, ?_⟩, advanceY_syh_of_le, rfl⟩
  · simp [advanceY_syh_of_overflow h, yAdvanceSum]
  · have hlow := congrArg BitVec.toNat (lo8_advanceY_syh s)
    rw [if_pos (show 255 < yAdvanceSum s from h), BitVec.toNat_add, lo8_toNat, lo8_toNat] at hlow
    rw [hlow, Nat.mod_add_mod]

/-- A state with R157's first start-Y pair and increment. -/
def sevenBandsStart : State := { State.reset with syl := 200, inc := 24 }

/-- Settles O31: the pairs are those of one concrete state, which the model evaluates. -/
theorem yAdvanceSevenBands : Obligations.YAdvanceSevenBands := by
  intro s hsyl hsyh hinc
  have pairs : ∀ n, ((advanceY^[n] s).syl.toNat, (advanceY^[n] s).syh.toNat) =
      ((advanceY^[n] sevenBandsStart).syl.toNat, (advanceY^[n] sevenBandsStart).syh.toNat) := by
    intro n
    obtain ⟨hl, hh⟩ := advanceY_iterate_congr (b := sevenBandsStart) hsyl hsyh hinc n
    rw [hl, hh]
  rw [List.map_congr_left fun n _ => pairs n]
  decide

/-- Settles O32, by induction on the number of advances: each adds the increment, which stays. -/
theorem yLowByteAfterManyAdvances : Obligations.YLowByteAfterManyAdvances := by
  intro n s
  induction n with
  | zero =>
    rw [Nat.zero_mul, Nat.add_zero]
    exact (Nat.mod_eq_of_lt s.syl.isLt).symm
  | succ n ih =>
    rw [Function.iterate_succ_apply', advanceY_syl_eq_add, advanceY_iterate_inc, BitVec.toNat_add, ih,
      Nat.mod_add_mod, Nat.add_assoc, Nat.succ_mul]

/-! #### The emitted position -/

theorem posBytes_advanceY (s : State) : posBytes (advanceY s) = [esc, 0x57, s.sxl, s.sxh, (advanceY s).syl,
    lo8 (advanceY s).syh.toNat, s.exl, s.exh, s.eyl, s.eyh] := rfl

/-- The positioning bytes after an advance are a function of those before it: of SYH the low byte is enough. -/
theorem posBytes_advanceY_congr {a b : State} (hp : posBytes a = posBytes b) (hi : a.inc = b.inc) :
    posBytes (advanceY a) = posBytes (advanceY b) := by
  simp only [posBytes, List.cons.injEq, and_true, true_and] at hp
  obtain ⟨hsxl, hsxh, hsyl, hsyh, hexl, hexh, heyl, heyh⟩ := hp
  have hsum : yAdvanceSum a = yAdvanceSum b := by rw [yAdvanceSum, hsyl, hi, yAdvanceSum]
  have low : (advanceY a).syl = (advanceY b).syl := by rw [advanceY_syl, advanceY_syl, hsum]
  have high : lo8 (advanceY a).syh.toNat = lo8 (advanceY b).syh.toNat := by
    rw [lo8_advanceY_syh, lo8_advanceY_syh, hsyh, hsum, low]
  rw [posBytes_advanceY, posBytes_advanceY, low, high, hsxl, hsxh, hexl, hexh, heyl, heyh]

theorem posBytes_iterate_congr {a b : State} (hp : posBytes a = posBytes b) (hi : a.inc = b.inc) (n : Nat) :
    posBytes (advanceY^[n] a) = posBytes (advanceY^[n] b) := by
  induction n with
  | zero => exact hp
  | succ n ih =>
    rw [Function.iterate_succ_apply', Function.iterate_succ_apply']
    exact posBytes_advanceY_congr ih (by rw [advanceY_iterate_inc, advanceY_iterate_inc, hi])

/-! #### FRAME.BANDS -/

/-- FRAME.BANDS as updates of the state: the frames of all bands, and the last band's position (R155). -/
theorem exec_frameBands (s : State) : exec .frameBands s =
    .next (((s.setStartY (advanceY^[blockBands s - 1] s).syl (advanceY^[blockBands s - 1] s).syh).emit
      (framesUpTo s (blockBands s))).succeed) := by
  show Host.Outcome.next (frameBands (blockBands s) s).succeed = _
  rw [frameBands_eq, ← advanceY_iterate_frame]

/-- Settles O33: the closed form of FRAME.BANDS, its header written out. -/
theorem frameBandsEmitsEveryBand : Obligations.FrameBandsEmitsEveryBand := by
  intro s
  refine ⟨lo8 s.rbW.toNat, hi8 s.rbW.toNat, lo8_toNat _, hi8_toNat_of_lt s.rbW.isLt, ?_⟩
  have header : bitImageHeader s =
      s.cfg.bimgPrefix ++ [s.cfg.bimgMode, lo8 s.rbW.toNat, hi8 s.rbW.toNat] := List.append_assoc _ _ _
  rw [exec_frameBands, framesUpTo, header]; rfl

/-- Settles O34: each band's frame is ten bytes, the header and a whole slice. -/
theorem frameBandsAppendedLength : Obligations.FrameBandsAppendedLength := by
  intro s t hinv ht
  obtain rfl := Host.Outcome.next.inj ((exec_frameBands s).symm.trans ht)
  obtain ⟨-, -, hrb⟩ := (Memory.wf_iff s).mp hinv.memory
  refine ⟨framesUpTo s (blockBands s), rfl, flatMap_range_length _ _ _ fun b hb => ?_⟩
  rw [List.length_append, List.length_append, posBytes_length, bitImageHeader_length,
    bandSlice_length hrb hb, ← Nat.add_assoc]

/-- The frames depend on the emitted position, the increment, the header and the slices. -/
theorem framesUpTo_congr {a b : State} (hp : posBytes a = posBytes b) (hi : a.inc = b.inc)
    (hh : bitImageHeader a = bitImageHeader b) (hs : bandSlice a = bandSlice b) (n : Nat) :
    framesUpTo a n = framesUpTo b n :=
  List.flatMap_congr fun k _ => by rw [posBytes_iterate_congr hp hi k, hh, hs]

/-- Settles O35: a multiple of 256 in SYH is not in the positioning bytes, and all else emitted is the same. -/
theorem onlyLowByteOfSyhIsEmitted : Obligations.OnlyLowByteOfSyhIsEmitted := by
  intro s y i hy hop
  have hpos : posBytes { s with syh := y } = posBytes s := by
    have low : lo8 y.toNat = lo8 s.syh.toNat := BitVec.eq_of_toNat_eq (by rw [lo8_toNat, lo8_toNat, hy])
    simp only [posBytes, low]
  rcases hop with rfl | rfl
  · exact ⟨_, _, exec_setArea s, exec_setArea _, congrArg (s.out ++ ·) hpos⟩
  · exact ⟨_, _, exec_frameBands s, exec_frameBands _,
      congrArg (s.out ++ ·) (framesUpTo_congr hpos rfl rfl rfl (blockBands s))⟩

/-! #### RAST.BAND and then FRAME.BANDS -/

/-- The header FRAME.BANDS gives every band of a block that RAST.BAND packed from the grid of `s`. -/
def gridHeader (s : State) : List Byte :=
  s.cfg.bimgPrefix ++ [s.cfg.bimgMode, lo8 (effW s), hi8 (effW s)]

/-- The frame of band `i` of the grid. -/
def gridChunk (s : State) (i : Nat) : List Byte := posBytes (advanceY^[i] s) ++ gridHeader s ++ bandRow s i

theorem gridHeader_length (s : State) : (gridHeader s).length = s.cfg.bimgPrefix.length + 3 := by
  simp [gridHeader]

theorem gridChunk_length (s : State) (i : Nat) :
    (gridChunk s i).length = 13 + s.cfg.bimgPrefix.length + 3 * effW s := by
  rw [gridChunk, List.length_append, List.length_append, posBytes_length, gridHeader_length, bandRow_length]
  omega

theorem gridChunk_take (s : State) (i : Nat) : (gridChunk s i).take 10 = posBytes (advanceY^[i] s) := by
  rw [gridChunk, List.append_assoc]
  exact List.take_left' (posBytes_length _)

theorem gridChunk_header (s : State) (i : Nat) :
    ((gridChunk s i).drop 10).take (s.cfg.bimgPrefix.length + 3) = gridHeader s := by
  rw [gridChunk, List.append_assoc, List.drop_left' (posBytes_length _)]
  exact List.take_left' (gridHeader_length s)

/-- Behind the position and the header stand the band's pixels. -/
theorem gridChunk_get (s : State) (i n : Nat) :
    (gridChunk s i)[13 + s.cfg.bimgPrefix.length + n]? = (bandRow s i)[n]? := by
  have hlen : (posBytes (advanceY^[i] s) ++ gridHeader s).length = 13 + s.cfg.bimgPrefix.length := by
    rw [List.length_append, posBytes_length, gridHeader_length]; omega
  rw [gridChunk, ← hlen, List.getElem?_append_right (Nat.le_add_right _ _), Nat.add_sub_cancel_left]

/-- A band's slice of the block that RAST.BAND packed from the grid of `s` is the band packed. -/
theorem bandSlice_of_bandBlock {s t : State} (hrb : t.rb = bandBytes s) (hw : t.rbW.toNat = effW s) {i : Nat}
    (hi : i < nBands s) : bandSlice t i = bandRow s i := by
  rw [bandSlice, hrb, hw]
  exact bandBytes_slice s hi

/-- The frames of such a block, at the position of `s`, are the frames of the grid's bands. -/
theorem framesUpTo_of_bandBlock {s t : State} (hrb : t.rb = bandBytes s) (hw : t.rbW.toNat = effW s)
    (hh : t.rbH.toNat = effHBand s) (hpos : posBytes t = posBytes s) (hinc : t.inc = s.inc) (hcfg : t.cfg = s.cfg) :
    framesUpTo t (blockBands t) = ((List.range (nBands s)).map (gridChunk s)).flatten := by
  have count : blockBands t = nBands s := by rw [blockBands, hh, nBands]
  have header : bitImageHeader t = gridHeader s := by
    rw [bitImageHeader, hcfg, hw, List.append_assoc]; rfl
  rw [framesUpTo, count, ← List.flatMap_def]
  refine List.flatMap_congr fun i hi => ?_
  rw [posBytes_iterate_congr hpos hinc i, header, bandSlice_of_bandBlock hrb hw (List.mem_range.mp hi), gridChunk]

/-- FRAME.BANDS straight after RAST.BAND appends the frames of the grid's bands. -/
theorem exec_frameBands_of_rastBand (s : State) : ∃ t u,
    exec .rastBand s = .next t ∧ exec .frameBands t = .next u ∧
    u.out = s.out ++ ((List.range (nBands s)).map (gridChunk s)).flatten :=
  ⟨_, _, exec_rastBand s, exec_frameBands _, congrArg (s.out ++ ·) (framesUpTo_of_bandBlock rfl
    (s.setBlock_rbW_toNat (bandBytes s) (effW_lt s) (effHBand s))
    (s.setBlock_rbH_toNat (bandBytes s) (effW s) (effHBand_lt s)) rfl rfl rfl)⟩

/-- Settles O36: the chunks are the frames of the grid's bands. -/
theorem rastBandThenFrameBands : Obligations.RastBandThenFrameBands := by
  intro s
  obtain ⟨t, u, ht, hu, hout⟩ := exec_frameBands_of_rastBand s
  rw [nBands_eq] at hout
  refine ⟨t, u, ht, hu, _, hout, by simp, fun i hi => ⟨gridChunk s i, map_range_get _ hi,
    gridChunk_take s i, ⟨lo8 (effW s), hi8 (effW s), lo8_toNat _, hi8_toNat_of_lt (effW_lt s),
      gridChunk_header s i⟩, gridChunk_length s i, fun j k hj hk => ⟨bandByte s i j k, ?_, ?_⟩⟩⟩
  · rw [Nat.add_assoc, gridChunk_get]
    exact bandRow_get s i hj hk
  · exact fun r hr => bandByte_bit s i j k hr

/-! ### An operation in closed form, and what it reads and writes (R14, R62)

Every operation is three functions of the state: the registers and the block it rewrites, the bytes it appends
to OUT, and the code it leaves in ERR. -/

/-- The state with an operation's registers and raster block rewritten, OUT and ERR still as they were. -/
def rewritten (i : Instr) (s : State) : State :=
  match i with
  | .rastSimple =>
    (s.setBlock (simpleBytes s) (effW s) (effHSimple s)).setHeader (byteW s) (effHSimple s)
  | .rastBand => s.setBlock (bandBytes s) (effW s) (effHBand s)
  | .frameBands => s.setStartY (advanceY^[blockBands s - 1] s).syl (advanceY^[blockBands s - 1] s).syh
  | .prnReset | .cutFull | .cutPartial | .setArea | .barcode | .qrcode => s

/-- The bytes an operation appends: none when it rasterizes or ends in an error. -/
def appendedBytes (i : Instr) (s : State) : List Byte :=
  match i with
  | .rastSimple | .rastBand => []
  | .prnReset => [0x1B, 0x40]
  | .cutFull => [0x1D, 0x56, 0x41, 0x00]
  | .cutPartial => [0x1D, 0x56, 0x01]
  | .setArea => posBytes s
  | .barcode => if nulFramed s then nulFrame s else if lengthUnrepresentable s then [] else lengthFrame s
  | .qrcode => if payloadTooLong s then [] else qrSequence s
  | .frameBands => framesUpTo s (blockBands s)

/-- The code an operation leaves in ERR. -/
def finalErr (i : Instr) (s : State) : Byte :=
  match i with
  | .barcode => if nulFramed s then 0 else if lengthUnrepresentable s then 3 else 0
  | .qrcode => if payloadTooLong s then 1 else 0
  | .rastSimple | .rastBand | .prnReset | .cutFull | .cutPartial | .setArea | .frameBands => 0

/-- The state an operation leaves. -/
def resultOf (i : Instr) (s : State) : State :=
  { (rewritten i s).emit (appendedBytes i s) with err := finalErr i s }

theorem State.emit_nil (s : State) : s.emit [] = s := by simp [State.emit]

/-- Every operation answers its closed form (R180). -/
theorem exec_eq (i : Instr) (s : State) : exec i s = .next (resultOf i s) := by
  cases i with
  | rastSimple | rastBand => rw [resultOf, appendedBytes, State.emit_nil]; rfl
  | prnReset | cutFull | cutPartial | setArea => rfl
  | barcode =>
    show execBarcode s = _
    unfold execBarcode resultOf appendedBytes finalErr
    split
    · rfl
    · split
      · rw [State.emit_nil]; rfl
      · rfl
  | qrcode =>
    show execQrcode s = _
    unfold execQrcode resultOf appendedBytes finalErr
    split
    · rw [State.emit_nil]; rfl
    · rfl
  | frameBands => exact exec_frameBands s

theorem exec_next {i : Instr} {s t : State} (h : exec i s = .next t) : t = resultOf i s :=
  Host.Outcome.next.inj (h.symm.trans (exec_eq i s))

/-- The code left is one that the block raises (R181). -/
theorem finalErr_mem (i : Instr) (s : State) : finalErr i s ∈ errCodes := by
  cases i with
  | barcode =>
    simp only [finalErr]
    split
    · decide
    · split <;> decide
  | qrcode => simp only [finalErr]; split <;> decide
  | rastSimple | rastBand | prnReset | cutFull | cutPartial | setArea | frameBands => exact List.mem_cons_self

section
variable (i : Instr) (s : State)

@[simp] theorem rewritten_grid : (rewritten i s).grid = s.grid := by cases i <;> rfl
@[simp] theorem rewritten_w : (rewritten i s).w = s.w := by cases i <;> rfl
@[simp] theorem rewritten_h : (rewritten i s).h = s.h := by cases i <;> rfl
@[simp] theorem rewritten_pay : (rewritten i s).pay = s.pay := by cases i <;> rfl
@[simp] theorem rewritten_plen : (rewritten i s).plen = s.plen := by cases i <;> rfl
@[simp] theorem rewritten_out : (rewritten i s).out = s.out := by cases i <;> rfl
@[simp] theorem rewritten_cfg : (rewritten i s).cfg = s.cfg := by cases i <;> rfl
@[simp] theorem rewritten_script : (rewritten i s).script = s.script := by cases i <;> rfl
@[simp] theorem rewritten_reads : (rewritten i s).reads = s.reads := by cases i <;> rfl
@[simp] theorem rewritten_sunk : (rewritten i s).sunk = s.sunk := by cases i <;> rfl

@[simp] theorem resultOf_grid : (resultOf i s).grid = s.grid := rewritten_grid i s
@[simp] theorem resultOf_w : (resultOf i s).w = s.w := rewritten_w i s
@[simp] theorem resultOf_h : (resultOf i s).h = s.h := rewritten_h i s
@[simp] theorem resultOf_pay : (resultOf i s).pay = s.pay := rewritten_pay i s
@[simp] theorem resultOf_plen : (resultOf i s).plen = s.plen := rewritten_plen i s
@[simp] theorem resultOf_cfg : (resultOf i s).cfg = s.cfg := rewritten_cfg i s
@[simp] theorem resultOf_script : (resultOf i s).script = s.script := rewritten_script i s
@[simp] theorem resultOf_reads : (resultOf i s).reads = s.reads := rewritten_reads i s
@[simp] theorem resultOf_sunk : (resultOf i s).sunk = s.sunk := rewritten_sunk i s

@[simp] theorem resultOf_out : (resultOf i s).out = s.out ++ appendedBytes i s :=
  congrArg (· ++ appendedBytes i s) (rewritten_out i s)

end

/-- Every register but ERR is as `rewritten` left it. -/
theorem readReg_resultOf {r : Reg} (h : r ≠ .err) (i : Instr) (s : State) :
    readReg r (resultOf i s) = readReg r (rewritten i s) := by
  cases r with
  | err => exact absurd rfl h
  | _ => rfl

/-! #### The writes -/

theorem err_mem_writtenRegs (i : Instr) : Reg.err ∈ writtenRegs i := by cases i <;> decide

/-- A register that is not listed for an operation is not rewritten by it. -/
theorem readReg_rewritten_of_not_mem {i : Instr} {r : Reg} (h : r ∉ writtenRegs i) (s : State) :
    readReg r (rewritten i s) = readReg r s := by
  cases i with
  | rastSimple =>
    cases r with
    | rbW | rbH | hxl | hxh | hyl | hyh => exact absurd (by decide) h
    | _ => rfl
  | rastBand =>
    cases r with
    | rbW | rbH => exact absurd (by decide) h
    | _ => rfl
  | frameBands =>
    cases r with
    | syl | syh => exact absurd (by decide) h
    | _ => rfl
  | prnReset | cutFull | cutPartial | setArea | barcode | qrcode => rfl

/-- A framer operation does not touch the raster block. -/
theorem rewritten_rb_of_framer {i : Instr} (h : rasterizes i = false) (s : State) :
    (rewritten i s).rb = s.rb := by
  cases i with
  | rastSimple | rastBand => cases h
  | _ => rfl

theorem appendedBytes_of_rasterizes {i : Instr} (h : rasterizes i = true) (s : State) :
    appendedBytes i s = [] := by
  cases i with
  | rastSimple | rastBand => rfl
  | _ => cases h

/-- Settles O37: what the closed form leaves alone. -/
theorem operationsWriteOnlyWhatIsListed : Obligations.OperationsWriteOnlyWhatIsListed := by
  intro i s t ht
  obtain rfl := exec_next ht
  refine ⟨fun r hr => ?_, resultOf_grid i s, resultOf_pay i s, resultOf_cfg i s, resultOf_script i s,
    resultOf_reads i s, resultOf_sunk i s, fun hras => ?_,
    fun hfr => ⟨rewritten_rb_of_framer hfr s, fun n hn => ?_⟩⟩
  · have hne : r ≠ .err := fun h => hr (h ▸ err_mem_writtenRegs i)
    rw [readReg_resultOf hne, readReg_rewritten_of_not_mem hr]
  · rw [resultOf_out, appendedBytes_of_rasterizes hras, List.append_nil]
  · rw [resultOf_out, List.getElem?_append_left hn]

/-! #### The reads -/

theorem posBytes_of_samePosition {a b : State} (h : samePosition a b) : posBytes a = posBytes b := by
  obtain ⟨hsxl, hsxh, hsyl, hsyh, hexl, hexh, heyl, heyh⟩ := h
  simp only [posBytes, hsxl, hsxh, hsyl, hsyh, hexl, hexh, heyl, heyh]

/-- The appended bytes and the code in ERR are functions of what is listed as read. -/
theorem appendedBytes_congr {i : Instr} {a b : State} (h : sameReads i a b) :
    appendedBytes i a = appendedBytes i b ∧ finalErr i a = finalErr i b := by
  cases i with
  | rastSimple | rastBand | prnReset | cutFull | cutPartial => exact ⟨rfl, rfl⟩
  | setArea => exact ⟨posBytes_of_samePosition h, rfl⟩
  | barcode =>
    obtain ⟨hsym, hplen, hpay⟩ := h
    have form : nulFramed a = nulFramed b := by simp only [nulFramed, hsym]
    have check : lengthUnrepresentable a = lengthUnrepresentable b := by simp only [lengthUnrepresentable, hplen]
    have nulled : nulFrame a = nulFrame b := by simp only [nulFrame, hsym, hpay]
    have counted : lengthFrame a = lengthFrame b := by simp only [lengthFrame, hsym, hplen, hpay]
    simp only [appendedBytes, finalErr, form, check, nulled, counted, and_self]
  | qrcode =>
    obtain ⟨hmodel, hsize, hlevel, hplen, hpay, hcfg⟩ := h
    have check : payloadTooLong a = payloadTooLong b := by simp only [payloadTooLong, hplen]
    have operands : qrModelByte a = qrModelByte b ∧ qrSize a = qrSize b ∧ qrLevel a = qrLevel b := by
      simp only [qrModelByte, qrSize, qrLevel, hmodel, hsize, hlevel, hcfg, and_self]
    obtain ⟨model, size, level⟩ := operands
    have frames : qrSequence a = qrSequence b := by
      simp only [qrSequence, qrStep1, qrStep2, qrStep3, qrStep4, qrStep5, model, size, level, hpay, hcfg]
    simp only [appendedBytes, finalErr, check, frames, and_self]
  | frameBands =>
    obtain ⟨hrb, hw, hh, hpos, hinc, hcfg⟩ := h
    have header : bitImageHeader a = bitImageHeader b := by simp only [bitImageHeader, hw, hcfg]
    have slices : bandSlice a = bandSlice b := by funext k; simp only [bandSlice, hrb, hw]
    have count : blockBands a = blockBands b := by simp only [blockBands, hh]
    refine ⟨?_, rfl⟩
    show framesUpTo a (blockBands a) = framesUpTo b (blockBands b)
    rw [count, framesUpTo_congr (posBytes_of_samePosition hpos) hinc header slices]

/-- A rasterizing operation's block is a function of the dimensions and the effective cells. -/
theorem rewritten_rb_congr {i : Instr} {a b : State} (hras : rasterizes i = true) (h : sameReads i a b) :
    (rewritten i a).rb = (rewritten i b).rb := by
  cases i with
  | rastSimple => obtain ⟨hw, hh, cells⟩ := h; exact simpleBytes_congr hw hh cells
  | rastBand => obtain ⟨hw, hh, cells⟩ := h; exact bandBytes_congr hw hh cells
  | prnReset | cutFull | cutPartial | setArea | barcode | qrcode | frameBands => cases hras

/-- The registers an operation writes, but ERR, are functions of what is listed as read. -/
theorem readReg_rewritten_congr {i : Instr} {a b : State} (h : sameReads i a b) {r : Reg}
    (hr : r ∈ writtenRegs i) (hne : r ≠ .err) : readReg r (rewritten i a) = readReg r (rewritten i b) := by
  cases i with
  | rastSimple =>
    obtain ⟨hw, hh, -⟩ := h
    simp only [writtenRegs, List.mem_cons, List.not_mem_nil, or_false, hne] at hr
    rcases hr with rfl | rfl | rfl | rfl | rfl | rfl <;>
      simp [readReg, rewritten, byteW, effW_congr hw, effHSimple_congr hh]
  | rastBand =>
    obtain ⟨hw, hh, -⟩ := h
    simp only [writtenRegs, List.mem_cons, List.not_mem_nil, or_false, hne] at hr
    rcases hr with rfl | rfl <;> simp [readReg, rewritten, effW_congr hw, effHBand_congr hh]
  | frameBands =>
    obtain ⟨-, -, hh, ⟨-, -, hsyl, hsyh, -⟩, hinc, -⟩ := h
    have count : blockBands a = blockBands b := by simp only [blockBands, hh]
    obtain ⟨low, high⟩ := advanceY_iterate_congr hsyl hsyh hinc (blockBands b - 1)
    simp only [writtenRegs, List.mem_cons, List.not_mem_nil, or_false, hne] at hr
    rcases hr with rfl | rfl <;> simp [readReg, rewritten, count, low, high]
  | prnReset | cutFull | cutPartial | setArea | barcode | qrcode =>
    exact absurd (List.mem_singleton.mp hr) hne

/-- Settles O38: each part of the closed form is a function of what is listed as read. -/
theorem operationsReadOnlyWhatIsListed : Obligations.OperationsReadOnlyWhatIsListed := by
  intro i a b ta tb h ha hb
  obtain rfl := exec_next ha
  obtain rfl := exec_next hb
  obtain ⟨bytes, code⟩ := appendedBytes_congr h
  refine ⟨fun r hr => ?_, fun hras => rewritten_rb_congr hras h, appendedBytes i a, resultOf_out i a, ?_⟩
  · by_cases hne : r = .err
    · rw [hne]
      exact congrArg (BitVec.setWidth 16) code
    · rw [readReg_resultOf hne, readReg_resultOf hne, readReg_rewritten_congr h hr hne]
  · rw [resultOf_out, bytes]

/-! #### The sink's progress -/

/-- The sink's consumption touches nothing that an operation reads. -/
theorem sameReads_sinkTake (i : Instr) (s : State) (n : Nat) : sameReads i (s.sinkTake n) s := by
  cases i with
  | rastSimple | rastBand => exact ⟨rfl, rfl, fun _ _ _ _ => rfl⟩
  | prnReset | cutFull | cutPartial => trivial
  | setArea => exact ⟨rfl, rfl, rfl, rfl, rfl, rfl, rfl, rfl⟩
  | barcode => exact ⟨rfl, rfl, rfl⟩
  | qrcode => exact ⟨rfl, rfl, rfl, rfl, rfl, rfl⟩
  | frameBands => exact ⟨rfl, rfl, rfl, ⟨rfl, rfl, rfl, rfl, rfl, rfl, rfl, rfl⟩, rfl, rfl⟩

theorem rewritten_sinkTake (i : Instr) (s : State) (n : Nat) :
    rewritten i (s.sinkTake n) = (rewritten i s).sinkTake n := by
  cases i with
  | frameBands =>
    obtain ⟨low, high⟩ := advanceY_iterate_congr (a := s.sinkTake n) (b := s) rfl rfl rfl (blockBands s - 1)
    show (s.sinkTake n).setStartY (advanceY^[blockBands s - 1] (s.sinkTake n)).syl
      (advanceY^[blockBands s - 1] (s.sinkTake n)).syh = _
    rw [low, high]; rfl
  | rastSimple | rastBand | prnReset | cutFull | cutPartial | setArea | barcode | qrcode => rfl

/-- Taking bytes that are there and appending others commute. -/
theorem emit_sinkTake {s : State} {n : Nat} (h : n ≤ s.out.length) (bytes : List Byte) :
    (s.sinkTake n).emit bytes = (s.emit bytes).sinkTake n := by
  simp only [State.emit, State.sinkTake, List.drop_append_of_le_length h, List.take_append_of_le_length h]

/-- Settles O39: the closed form reads the same, and appending commutes with taking from the front. -/
theorem sinkProgressDoesNotMatter : Obligations.SinkProgressDoesNotMatter := by
  intro i s t n ht hn
  obtain rfl := exec_next ht
  obtain ⟨bytes, code⟩ := appendedBytes_congr (sameReads_sinkTake i s n)
  have hout : n ≤ (rewritten i s).out.length := by rwa [rewritten_out]
  rw [exec_eq, resultOf, bytes, code, rewritten_sinkTake, emit_sinkTake hout]; rfl

/-! ### The invariant and the steps (R15, R16, R21, R22, R23, R181, R200) -/

/-- The invariant looks at the memories' form, ERR, RB_W, HXH, HYL and the configuration, nothing else. -/
theorem State.Inv.congr {s t : State} (hs : s.Inv) (hmem : Memory.wf t = Memory.wf s) (hw : t.rbW = s.rbW)
    (herr : t.err = s.err) (hhx : t.hxh = s.hxh) (hhy : t.hyl = s.hyl) (hcfg : t.cfg = s.cfg) : t.Inv where
  memory := hmem.trans hs.memory
  blockWidth := by rw [hw]; exact hs.blockWidth
  errCode := by rw [herr]; exact hs.errCode
  headerWidth := by rw [hhx]; exact hs.headerWidth
  headerHeight := by rw [hhy]; exact hs.headerHeight
  config := by rw [hcfg]; exact hs.config

/-- Settles O40: the reset registers are 0, and the installed configuration meets its constraints. -/
theorem resetMeetsTheInvariant : Obligations.ResetMeetsTheInvariant where
  memory := reset_wf
  blockWidth := rfl
  errCode := List.mem_cons_self
  headerWidth := Nat.zero_le 31
  headerHeight := rfl
  config := config_installed_wf

section
variable {s : State} (hs : s.Inv)
include hs

theorem setScript_inv (rest : List Action) : (s.setScript rest).Inv := hs.congr rfl rfl rfl rfl rfl rfl

theorem logRead_inv (v : HostRead) : (s.logRead v).Inv := hs.congr rfl rfl rfl rfl rfl rfl

theorem sinkTake_inv (n : Nat) : (s.sinkTake n).Inv := hs.congr rfl rfl rfl rfl rfl rfl

theorem writeReg_inv (r : Reg) (v : Half) : (writeReg r v s).Inv :=
  hs.congr (writeReg_wf r v) (writeReg_rbW r v s) (writeReg_err r v s) (writeReg_hxh r v s) (writeReg_hyl r v s)
    (writeReg_cfg r v s)

theorem loadGrid_inv {w h : Half} {g : List (List Bool)} (hg : gridShape w.toNat h.toNat g = true) :
    (s.loadGrid w h g).Inv :=
  ⟨loadGrid_wf hs.memory hg, hs.blockWidth, hs.errCode, hs.headerWidth, hs.headerHeight, hs.config⟩

theorem loadPayload_inv {bytes : List Byte} (hb : bytes.length ≤ 65535) : (s.loadPayload bytes).Inv :=
  ⟨loadPayload_wf hs.memory hb, hs.blockWidth, hs.errCode, hs.headerWidth, hs.headerHeight, hs.config⟩

theorem hardReset_inv : s.hardReset.Inv :=
  ⟨hardReset_wf, rfl, List.mem_cons_self, Nat.zero_le 31, rfl, hs.config⟩

theorem raise_inv {e : ErrorKind} (he : errorCode e ∈ errCodes) : (s.raise e).Inv :=
  ⟨hs.memory, hs.blockWidth, he, hs.headerWidth, hs.headerHeight, hs.config⟩

end

/-- The simple layout has as many bytes as its dimensions encode (R21). -/
theorem simpleBytes_length_eq_block (s : State) :
    (simpleBytes s).length = effW s * effHSimple s / 8 := by
  have hw : effW s * effHSimple s = 8 * (effHSimple s * byteW s) := by rw [effW_eq, byteW_eq]; ring
  rw [simpleBytes_length, hw, Nat.mul_div_cancel_left _ (by decide)]

/-- The band layout has as many bytes as its dimensions encode (R21). -/
theorem bandBytes_length_eq_block (s : State) : (bandBytes s).length = effW s * effHBand s / 8 := by
  have hh : effW s * effHBand s = 8 * (nBands s * (3 * effW s)) := by rw [effHBand_eq, nBands_eq]; ring
  rw [bandBytes_length, hh, Nat.mul_div_cancel_left _ (by decide)]

theorem setBlock_inv {s : State} (hs : s.Inv) {bytes : List Byte} {a b : Nat} (ha : a < 65536) (hb : b < 65536)
    (ha8 : a % 8 = 0) (hl : bytes.length = a * b / 8) : (s.setBlock bytes a b).Inv where
  memory := setBlock_wf hs.memory ha hb hl
  blockWidth := by rw [s.setBlock_rbW_toNat bytes ha b, ha8]
  errCode := hs.errCode
  headerWidth := hs.headerWidth
  headerHeight := hs.headerHeight
  config := hs.config

theorem setHeader_inv {s : State} (hs : s.Inv) {a b : Nat} (ha : (hi8 a).toNat ≤ 31) (hb : b % 8 = 0) :
    (s.setHeader a b).Inv where
  memory := hs.memory
  blockWidth := hs.blockWidth
  errCode := hs.errCode
  headerWidth := ha
  headerHeight := by rw [State.setHeader_hyl, lo8_toNat]; omega
  config := hs.config

/-- What an operation rewrites keeps the invariant: the rasterizing ones put a whole block. -/
theorem rewritten_inv {s : State} (hs : s.Inv) (i : Instr) : (rewritten i s).Inv := by
  cases i with
  | rastSimple =>
    have block := setBlock_inv hs (effW_lt s) (effHSimple_lt s) (floorTo_mod 8 _) (simpleBytes_length_eq_block s)
    exact setHeader_inv block (headerWidth_le s) (floorTo_mod 8 _)
  | rastBand => exact setBlock_inv hs (effW_lt s) (effHBand_lt s) (floorTo_mod 8 _) (bandBytes_length_eq_block s)
  | frameBands => exact hs.congr rfl rfl rfl rfl rfl rfl
  | prnReset | cutFull | cutPartial | setArea | barcode | qrcode => exact hs

theorem resultOf_inv {s : State} (hs : s.Inv) (i : Instr) : (resultOf i s).Inv :=
  have h := rewritten_inv hs i
  ⟨h.memory, h.blockWidth, finalErr_mem i s, h.headerWidth, h.headerHeight, h.config⟩

/-- A request answers the closed form of its operation, or raises IllegalOperation. -/
theorem request_next {v : Byte} {s t : State} (h : request v s = .next t) :
    (∃ i, t = resultOf i s) ∨ t = s.raise .illegalOperation := by
  rcases request_cases v s with ⟨i, -, hr⟩ | ⟨-, hr⟩
  · exact .inl ⟨i, exec_next (hr.symm.trans h)⟩
  · exact .inr (Host.Outcome.next.inj (h.symm.trans hr))

theorem request_inv {v : Byte} {s t : State} (hs : s.Inv) (h : request v s = .next t) : t.Inv := by
  rcases request_next h with ⟨i, rfl⟩ | rfl
  · exact resultOf_inv hs i
  · exact raise_inv hs (by decide)

/-- Settles O41: each thing a step can do keeps the invariant. -/
theorem everyStepKeepsTheInvariant : Obligations.EveryStepKeepsTheInvariant := by
  intro s t hs ht
  rcases step_cases ht with ⟨-, rfl⟩ | ⟨rest, hgrid | hpayload | hrequest | hwrite | hread | hreset | hsink⟩
  · exact hs
  all_goals have hs' := setScript_inv hs rest
  · obtain ⟨w, h, g, -, hg, rfl⟩ := hgrid
    exact loadGrid_inv hs' hg
  · obtain ⟨bytes, -, hb, rfl⟩ := hpayload
    exact loadPayload_inv hs' hb
  · obtain ⟨n, v, -, hr⟩ := hrequest
    exact request_inv hs' hr
  · obtain ⟨n, v, r, -, -, rfl⟩ := hwrite
    exact writeReg_inv hs' r v
  · obtain ⟨v, -, rfl⟩ := hread
    exact logRead_inv hs' v
  · obtain ⟨-, rfl⟩ := hreset
    exact hardReset_inv hs'
  · obtain ⟨n, -, rfl⟩ := hsink
    exact sinkTake_inv hs' n

/-! #### What steps leave alone -/

/-- What a request leaves of the inputs and of the bytes already emitted. -/
theorem request_frame {v : Byte} {s t : State} (h : request v s = .next t) :
    t.cfg = s.cfg ∧ (t.w = s.w ∧ t.h = s.h ∧ t.grid = s.grid) ∧ (t.plen = s.plen ∧ t.pay = s.pay) ∧
      ∃ bytes, t.emitted = s.emitted ++ bytes := by
  rcases request_next h with ⟨i, rfl⟩ | rfl
  · refine ⟨resultOf_cfg i s, ⟨resultOf_w i s, resultOf_h i s, resultOf_grid i s⟩,
      ⟨resultOf_plen i s, resultOf_pay i s⟩, appendedBytes i s, ?_⟩
    simp only [State.emitted, resultOf_sunk, resultOf_out, List.append_assoc]
  · exact ⟨rfl, ⟨rfl, rfl, rfl⟩, ⟨rfl, rfl⟩, [], (List.append_nil _).symm⟩

theorem sinkTake_emitted (n : Nat) (s : State) : (s.sinkTake n).emitted = s.emitted := by
  simp only [State.emitted, State.sinkTake_sunk, State.sinkTake_out, List.append_assoc, List.take_append_drop]

theorem writeReg_emitted (r : Reg) (v : Half) (s : State) : (writeReg r v s).emitted = s.emitted := by
  simp only [State.emitted, writeReg_sunk, writeReg_out]

/-- Settles O42: a request appends, the sink moves bytes from one part to the other, and no other step but
hardware reset touches either part. -/
theorem emittedBytesAreFinal : Obligations.EmittedBytesAreFinal := by
  intro s t ht noReset
  have unchanged : t.emitted = s.emitted → ∃ bytes, t.emitted = s.emitted ++ bytes :=
    fun h => ⟨[], by rw [h, List.append_nil]⟩
  rcases step_cases ht with ⟨-, rfl⟩ | ⟨rest, hgrid | hpayload | hrequest | hwrite | hread | hreset | hsink⟩
  · exact unchanged rfl
  · obtain ⟨w, h, g, -, -, rfl⟩ := hgrid
    exact unchanged rfl
  · obtain ⟨bytes, -, -, rfl⟩ := hpayload
    exact unchanged rfl
  · obtain ⟨n, v, -, hr⟩ := hrequest
    obtain ⟨-, -, -, appended⟩ := request_frame hr
    exact appended
  · obtain ⟨n, v, r, -, -, rfl⟩ := hwrite
    exact unchanged (writeReg_emitted r v _)
  · obtain ⟨v, -, rfl⟩ := hread
    exact unchanged rfl
  · exact absurd hreset.1 (noReset rest)
  · obtain ⟨n, -, rfl⟩ := hsink
    exact unchanged (sinkTake_emitted n _)

/-- Settles O43: each thing a step can do, with the two loads and reset as the exceptions. -/
theorem inputsChangeOnlyByLoads : Obligations.InputsChangeOnlyByLoads := by
  intro s t ht
  rcases step_cases ht with ⟨-, rfl⟩ | ⟨rest, hgrid | hpayload | hrequest | hwrite | hread | hreset | hsink⟩
  · exact ⟨rfl, fun _ => ⟨fun _ => ⟨rfl, rfl, rfl⟩, fun _ => ⟨rfl, rfl⟩⟩⟩
  · obtain ⟨w, h, g, hs, -, rfl⟩ := hgrid
    exact ⟨rfl, fun _ => ⟨fun noLoad => absurd hs (noLoad w h g rest), fun _ => ⟨rfl, rfl⟩⟩⟩
  · obtain ⟨bytes, hs, -, rfl⟩ := hpayload
    exact ⟨rfl, fun _ => ⟨fun _ => ⟨rfl, rfl, rfl⟩, fun noLoad => absurd hs (noLoad bytes rest)⟩⟩
  · obtain ⟨n, v, -, hr⟩ := hrequest
    obtain ⟨hcfg, hgrid, hpay, -⟩ := request_frame hr
    exact ⟨hcfg, fun _ => ⟨fun _ => hgrid, fun _ => hpay⟩⟩
  · obtain ⟨n, v, r, -, -, rfl⟩ := hwrite
    exact ⟨writeReg_cfg r v _, fun _ => ⟨fun _ => ⟨writeReg_w r v _, writeReg_h r v _, writeReg_grid r v _⟩,
      fun _ => ⟨writeReg_plen r v _, writeReg_pay r v _⟩⟩⟩
  · obtain ⟨v, -, rfl⟩ := hread
    exact ⟨rfl, fun _ => ⟨fun _ => ⟨rfl, rfl, rfl⟩, fun _ => ⟨rfl, rfl⟩⟩⟩
  · obtain ⟨hs, rfl⟩ := hreset
    exact ⟨rfl, fun noReset => absurd hs (noReset rest)⟩
  · obtain ⟨n, -, rfl⟩ := hsink
    exact ⟨rfl, fun _ => ⟨fun _ => ⟨rfl, rfl, rfl⟩, fun _ => ⟨rfl, rfl⟩⟩⟩

/-- Settles O48: the empty script is the idle case of a step. -/
theorem idleStepChangesNothing : Obligations.IdleStepChangesNothing := fun _ => step_idle

/-! #### Reset -/

/-- Settles O45: every field of the reset state is 0 or empty. -/
theorem resetState : Obligations.ResetState := ⟨readReg_reset, rfl, rfl, rfl, rfl⟩

/-- The registers after hardware reset are those of the reset state (R200). -/
theorem readReg_hardReset (r : Reg) (s : State) : readReg r s.hardReset = 0 :=
  (show readReg r s.hardReset = readReg r State.reset by cases r <;> rfl).trans (readReg_reset r)

/-- Settles O46: the step is `hardReset`, which keeps the four fields that stand outside the block. -/
theorem hardwareReset : Obligations.HardwareReset :=
  fun s rest hs => ⟨(s.setScript rest).hardReset, step_action hs, fun r => readReg_hardReset r _,
    rfl, rfl, rfl, rfl, rfl, rfl, rfl, rfl⟩

/-- Without a grid no cell is effective (R100, R104). -/
theorem effective_of_noGrid {s : State} (hw : s.w = 0) (hh : s.h = 0) :
    effW s = 0 ∧ effHSimple s = 0 ∧ effHBand s = 0 := by
  simp [effW_eq, effHSimple_eq, effHBand_eq, hw, hh]

/-- A grid of no rows is packed to no bytes. -/
theorem packed_of_noRows {s : State} (hh : s.h = 0) : simpleBytes s = [] ∧ bandBytes s = [] := by
  simp [simpleBytes, bandBytes, effHSimple_eq, nBands_eq, hh]

theorem clamp_zero (lo hi : Nat) : clamp lo hi 0 = lo := by
  rcases Nat.eq_zero_or_pos lo with rfl | pos
  · exact clamp_of_mem le_rfl (Nat.zero_le hi)
  · exact clamp_of_lt hi pos

/-- A block of no band is framed by nothing (R155). -/
theorem exec_frameBands_of_noBands {s : State} (h : blockBands s = 0) (herr : s.err = 0) :
    exec .frameBands s = .next s := by
  show Host.Outcome.next (frameBands (blockBands s) s).succeed = _
  rw [h]
  show Host.Outcome.next { s with err := 0 } = _
  rw [← herr]

/-- The five frames of no payload with every operand register 0: the clamps answer their lower bounds. -/
theorem qrSequence_of_zero {s : State} (hcfg : s.cfg.wf = true) (hpay : s.pay = []) (hplen : s.plen = 0)
    (hmodel : s.qmodel = 0) (hsize : s.qsize = 0) (hlevel : s.qec = 0) : qrSequence s =
      [0x1D, 0x28, 0x6B, 0x04, 0x00, s.cfg.qrCn, s.cfg.qrFnModel, s.cfg.qrModelByte0, s.cfg.qrModelSub] ++
      [0x1D, 0x28, 0x6B, 0x03, 0x00, s.cfg.qrCn, s.cfg.qrFnSize, 0x01] ++
      [0x1D, 0x28, 0x6B, 0x03, 0x00, s.cfg.qrCn, s.cfg.qrFnEc, s.cfg.qrEcLo] ++
      [0x1D, 0x28, 0x6B, 0x03, 0x00, s.cfg.qrCn, s.cfg.qrFnStore, s.cfg.qrStoreM] ++
      ([0x1D, 0x28, 0x6B, lo8 (2 + s.cfg.qrPrintTail.length), 0x00, s.cfg.qrCn, s.cfg.qrFnPrint] ++
        s.cfg.qrPrintTail) := by
  obtain ⟨-, hlevels, htail⟩ := (Config.wf_iff s.cfg).mp hcfg
  have model : qrModelByte s = s.cfg.qrModelByte0 := if_pos hmodel
  have size : qrSize s = 0x01 := by rw [qrSize, hsize]; rfl
  have level : qrLevel s = s.cfg.qrEcLo :=
    BitVec.eq_of_toNat_eq (by rw [qrLevel_toNat (hlevels ▸ Nat.le_add_right _ 3), hlevel]; exact clamp_zero _ _)
  have store : qrStep4 s = [0x1D, 0x28, 0x6B, 0x03, 0x00, s.cfg.qrCn, s.cfg.qrFnStore, s.cfg.qrStoreM] := by
    rw [qrStep4_eq (by rw [hpay, hplen]; rfl), hpay, hplen]; rfl
  rw [qrSequence, qrStep1_eq, qrStep2_eq, qrStep3_eq, store, qrStep5_eq htail, model, size, level]

/-- Settles O47: at reset no cell is effective, no payload byte is there, no band and no operand but 0. -/
theorem operationsStraightAfterReset : Obligations.OperationsStraightAfterReset := by
  intro c hc s
  obtain ⟨-, -, htail⟩ := (Config.wf_iff c).mp hc
  obtain ⟨width, rows, bands⟩ := effective_of_noGrid (s := s) rfl rfl
  obtain ⟨noRows, noBands⟩ := packed_of_noRows (s := s) rfl
  refine ⟨by rw [exec_rastSimple, noRows, byteW, width, rows]; rfl,
    by rw [exec_rastBand, noBands, width, bands]; rfl,
    exec_frameBands_of_noBands (Nat.zero_div 24) rfl, rfl, rfl, rfl, rfl, rfl,
    lo8 (2 + c.qrPrintTail.length), ?_, ?_⟩
  · rw [lo8_toNat]; omega
  · rw [exec_qrcode_fits (s := s) (Nat.zero_le 7089), qrSequence_of_zero (s := s) hc rfl rfl rfl rfl rfl]
    rfl

/-! ### The host interface (R12, R27, R191) -/

/-! #### What the interface accepts -/

section
variable {s : State}

theorem hostLoadGrid_of_shape {w h : Half} {g : List (List Bool)} (hg : gridShape w.toNat h.toNat g = true)
    (hcap : beyondCap s.cfg.gridCap (w.toNat * h.toNat) = false) :
    hostLoadGrid w h g s = .next (s.loadGrid w h g) := by
  simp only [hostLoadGrid, hg, hcap, Bool.not_true, Bool.false_eq_true, if_false]

theorem hostLoadPayload_of_le {bytes : List Byte} (h : bytes.length ≤ 65535) :
    hostLoadPayload bytes s = .next (s.loadPayload bytes) :=
  if_neg h.not_gt

/-- A write of a register the host may write, of a value it holds: a request if the register is CMD (R13), and
the register's write otherwise. -/
theorem hostWriteReg_of_fits {n : Byte} {r : Reg} {v : Half} (hr : regOfNumber n = some r)
    (hw : hostWritable r = true) (hv : valueFits r v = true) :
    hostWriteReg n v s = if r = .cmd then request (v.setWidth 8) s else .next (writeReg r v s) := by
  simp only [hostWriteReg, hr, hw, hv, Bool.not_true, Bool.false_eq_true, if_false]

theorem hostReadReg_of_readable {n : Byte} {r : Reg} (hr : regOfNumber n = some r) (h : hostReadable r = true) :
    hostReadReg n s = .next (s.logRead (.reg n (readReg r s))) := by
  simp only [hostReadReg, hr, h, if_true]

theorem hostReadRB_of_get {i : Nat} {b : Byte} (h : s.rb[i]? = some b) :
    hostReadRB i s = .next (s.logRead (.rb i b)) := by
  simp only [hostReadRB, h]

/-- An accepted action answers a next state (R191). -/
theorem perform_of_accepted {a : Action} (h : Accepted a s) : ∃ t, perform a s = .next t := by
  obtain ⟨hwf, hstate⟩ := h
  cases a with
  | loadGrid w h g => exact ⟨_, hostLoadGrid_of_shape hwf hstate⟩
  | loadPayload bytes => exact ⟨_, hostLoadPayload_of_le (of_decide_eq_true hwf)⟩
  | writeReg n v =>
    cases hr : regOfNumber n with
    | none => simp [Action.wf, hr] at hwf
    | some r =>
      obtain ⟨hw, hv⟩ : hostWritable r = true ∧ valueFits r v = true := by simpa [Action.wf, hr] using hwf
      by_cases hc : r = .cmd
      · obtain ⟨t, ht⟩ := request_answers (v.setWidth 8) s
        exact ⟨t, by rw [perform, hostWriteReg_of_fits hr hw hv, if_pos hc, ht]⟩
      · exact ⟨_, (hostWriteReg_of_fits hr hw hv).trans (if_neg hc)⟩
  | readReg n =>
    cases hr : regOfNumber n with
    | none => simp [Action.wf, hr] at hwf
    | some r => exact ⟨_, hostReadReg_of_readable hr (by simpa [Action.wf, hr] using hwf)⟩
  | readRB i => exact ⟨_, hostReadRB_of_get (List.getElem?_eq_getElem hstate)⟩
  | hardReset | sinkTake n => exact ⟨_, rfl⟩

/-- Acceptance looks at the action, GRID_CAP and the block, so not at the script. -/
theorem accepted_setScript {a : Action} (rest : List Action) : Accepted a (s.setScript rest) ↔ Accepted a s := by
  cases a <;> exact Iff.rfl

end

/-- Settles O44: an empty script idles, and an accepted action is performed. -/
theorem acceptedActionsArePerformed : Obligations.AcceptedActionsArePerformed := by
  intro s haccepted
  cases hs : s.script with
  | nil => exact ⟨s, step_idle hs⟩
  | cons a rest =>
    rw [step_action hs]
    exact perform_of_accepted ((accepted_setScript rest).mpr (haccepted a rest hs))

/-- A capacity is exceeded exactly where it is bounded by less (R5). -/
theorem beyondCap_eq_false_iff (cap : Option Nat) (cells : Nat) :
    beyondCap cap cells = false ↔ ∀ n, cap = some n → cells ≤ n := by
  cases cap <;> simp [beyondCap]

/-- Settles O49: the accepted load, and the cells of a grid of the right shape. -/
theorem loadGridSetsTheGrid : Obligations.LoadGridSetsTheGrid := by
  intro s w h cells rest hs hg hcap
  exact ⟨(step_action hs).trans (hostLoadGrid_of_shape hg ((beyondCap_eq_false_iff _ _).mpr hcap)),
    fun r c => cellAt_get hg⟩

/-- Settles O50: the accepted load, whose count fits PLEN. -/
theorem loadPayloadSetsThePayload : Obligations.LoadPayloadSetsThePayload :=
  fun _ _ _ hs hlen => ⟨_, (step_action hs).trans (hostLoadPayload_of_le hlen),
    Nat.mod_eq_of_lt (Nat.lt_succ_of_le hlen), rfl, rfl⟩

/-! #### Register access -/

/-- Of QMODEL every value fits, of any other register those below its width (log 10). -/
theorem valueFits_iff (r : Reg) (v : Half) : valueFits r v = true ↔ (r ≠ .qmodel → v.toNat < 2 ^ regWidth r) := by
  cases r <;> simp [valueFits]

theorem hostReadable_of_ne_cmd {r : Reg} (h : r ≠ .cmd) : hostReadable r = true := by
  cases r with
  | cmd => exact absurd rfl h
  | _ => rfl

/-- The script is no register. -/
theorem readReg_setScript (r : Reg) (s : State) (rest : List Action) :
    readReg r (s.setScript rest) = readReg r s := by
  cases r <;> rfl

/-- Settles O51: the accepted write, then what each register reads as after it. -/
theorem writeRegStoresTheValue : Obligations.WriteRegStoresTheValue := by
  intro s r v rest hs hw hc hv
  have hstep : step s = .next (writeReg r v (s.setScript rest)) := by
    rw [step_action hs, perform, hostWriteReg_of_fits (regOfNumber_regNumber r) hw ((valueFits_iff r v).mpr hv),
      if_neg hc]
  have stored := readReg_writeReg hw hc v (s.setScript rest)
  refine ⟨_, hstep, fun hq => ?_, fun hq => ?_, fun q hq => ?_, ?_, writeReg_script r v _⟩
  · exact BitVec.eq_of_toNat_eq (stored.trans (Nat.mod_eq_of_lt (hv hq)))
  · rw [stored, hq]; rfl
  · rw [readReg_writeReg_of_ne hq, readReg_setScript]
  · exact ⟨writeReg_grid r v _, writeReg_pay r v _, writeReg_rb r v _, writeReg_out r v _, writeReg_cfg r v _,
      writeReg_reads r v _, writeReg_sunk r v _⟩

/-- Settles O52: both reads only record. -/
theorem readsReturnWithoutSideEffect : Obligations.ReadsReturnWithoutSideEffect := by
  intro s rest
  refine ⟨fun r hs hc => ?_, fun i hs hi => ⟨s.rb[i], List.getElem?_eq_getElem hi, ?_⟩⟩
  · rw [step_action hs, perform, hostReadReg_of_readable (regOfNumber_regNumber r) (hostReadable_of_ne_cmd hc),
      readReg_setScript]
    rfl
  · exact (step_action hs).trans (hostReadRB_of_get (List.getElem?_eq_getElem hi))

/-- Settles O53: the sink takes the front of OUT and leaves the rest. -/
theorem sinkConsumesFromTheFront : Obligations.SinkConsumesFromTheFront :=
  fun s n _ hs hn => ⟨s.out.take n, s.out.drop n, (List.take_append_drop n s.out).symm,
    List.length_take_of_le hn, step_action hs⟩

/-! #### Register numbers -/

theorem regNumber_le (r : Reg) : (regNumber r).toNat ≤ 0x17 := by cases r <;> decide

/-- The registers stand in `allRegs` at their numbers (R12). -/
theorem regNumber_allRegs : ∀ k : Fin 24, regNumber (allRegs[k.val]'k.isLt) = BitVec.ofNat 8 k.val := by decide

theorem regOfNumber_eq_none {n : Byte} (h : 0x17 < n.toNat) : regOfNumber n = none := by
  refine List.find?_eq_none.mpr fun r _ hr => ?_
  rw [← eq_of_beq hr] at h
  exact absurd (regNumber_le r) h.not_ge

/-- Settles O55: numbers and registers are inverse to each other up to 0x17. -/
theorem registerNumbersNameRegisters : Obligations.RegisterNumbersNameRegisters := by
  refine ⟨regOfNumber_regNumber, fun n hn => ?_, fun n => regOfNumber_eq_none⟩
  have hnumber := regNumber_allRegs ⟨n.toNat, Nat.lt_succ_of_le hn⟩
  rw [BitVec.ofNat_toNat, BitVec.setWidth_eq] at hnumber
  exact ⟨_, (congrArg regOfNumber hnumber).symm.trans (regOfNumber_regNumber _), hnumber⟩

/-! #### What the interface refuses -/

section
variable {s : State}

theorem hostLoadGrid_beyondCap {w h : Half} {g : List (List Bool)} (hg : gridShape w.toNat h.toNat g = true)
    (hcap : beyondCap s.cfg.gridCap (w.toNat * h.toNat) = true) : hostLoadGrid w h g s = .refused .gridTooLarge := by
  simp only [hostLoadGrid, hg, hcap, Bool.not_true, Bool.false_eq_true, if_false, if_true]

theorem hostLoadGrid_malformed {w h : Half} {g : List (List Bool)} (hg : gridShape w.toNat h.toNat g = false) :
    hostLoadGrid w h g s = .refused .malformedGrid := by
  simp only [hostLoadGrid, hg, Bool.not_false, if_true]

theorem hostWriteReg_noSuchRegister {n : Byte} (h : 0x17 < n.toNat) (v : Half) :
    hostWriteReg n v s = .refused .noSuchRegister := by
  simp only [hostWriteReg, regOfNumber_eq_none h]

theorem hostReadReg_noSuchRegister {n : Byte} (h : 0x17 < n.toNat) :
    hostReadReg n s = .refused .noSuchRegister := by
  simp only [hostReadReg, regOfNumber_eq_none h]

theorem hostWriteReg_notWritable {r : Reg} (h : hostWritable r = false) (v : Half) :
    hostWriteReg (regNumber r) v s = .refused .notHostWritable := by
  simp only [hostWriteReg, regOfNumber_regNumber, h, Bool.not_false, if_true]

theorem hostWriteReg_tooWide {r : Reg} {v : Half} (hw : hostWritable r = true) (hv : valueFits r v = false) :
    hostWriteReg (regNumber r) v s = .refused .valueTooWide := by
  simp only [hostWriteReg, regOfNumber_regNumber, hw, hv, Bool.not_true, Bool.not_false, Bool.false_eq_true,
    if_false, if_true]

theorem hostReadRB_outOfRange {i : Nat} (h : s.rb.length ≤ i) : hostReadRB i s = .refused .rbIndexOutOfRange := by
  simp only [hostReadRB, List.getElem?_eq_none h]

end

/-- Settles O54: each refusal is the one of its host function. -/
theorem refusedHostActions : Obligations.RefusedHostActions := by
  intro s rest
  refine ⟨fun w h cells n hs hg hcap hn => ?_, fun bytes hs hlen => ?_, fun n v hs hn => ?_, fun n hs hn => ?_,
    fun r v hs hw => ?_, fun hs => ?_, fun i hs hi => ?_, fun r v hs hw hq hv => ?_, fun w h cells hs hg => ?_⟩
  all_goals refine (step_action hs).trans ?_
  · refine hostLoadGrid_beyondCap hg ?_
    rw [State.setScript_cfg, hcap]
    exact decide_eq_true hn
  · exact if_pos hlen
  · exact hostWriteReg_noSuchRegister hn v
  · exact hostReadReg_noSuchRegister hn
  · exact hostWriteReg_notWritable hw v
  · rfl
  · exact hostReadRB_outOfRange hi
  · refine hostWriteReg_tooWide hw (Bool.eq_false_iff.mpr fun fits => ?_)
    exact absurd ((valueFits_iff r v).mp fits hq) hv.not_gt
  · exact hostLoadGrid_malformed hg

/-! ### The front end (R93, R94, R96) -/

theorem frontEndRef_followsR93 : followsR93 frontEndRef :=
  fun _ _ _ => ⟨fun below => decide_eq_true below, fun above => decide_eq_false above.not_gt⟩

/-- Two comparisons that follow R93 agree away from the tie. -/
theorem threshold_congr {c d : FrontEndConfig} (hc : followsR93 c) (hd : followsR93 d) {p : Pixel}
    (h : luminance1000 p.red p.green p.blue ≠ 128000) : threshold c p = threshold d p := by
  rcases Nat.lt_or_gt_of_ne h with below | above
  · exact ((hc _ _ _).1 below).trans ((hd _ _ _).1 below).symm
  · exact ((hc _ _ _).2 above).trans ((hd _ _ _).2 above).symm

/-- Settles O57: the reference is the strict comparison, and R93 fixes the bit on either side of the tie. -/
theorem thresholdAwayFromTheTie : Obligations.ThresholdAwayFromTheTie :=
  ⟨frontEndRef_followsR93, fun _ => decide_eq_true_iff,
    fun _ hc _ h => threshold_congr hc frontEndRef_followsR93 h⟩

/-- The front end's grid has the picture's shape (R96). -/
theorem frontEnd_gridShape (c : FrontEndConfig) {picture : List (List Pixel)} {w h : Nat}
    (hh : picture.length = h) (hw : ∀ row ∈ picture, row.length = w) :
    gridShape w h (frontEnd c picture) = true := by
  simpa [gridShape, frontEnd, hh] using hw

/-- The front end's grid holds the thresholded composite of each pixel (R96). -/
theorem frontEnd_cell (c : FrontEndConfig) {picture : List (List Pixel)} {i j : Nat} {row : List Pixel} {p : Pixel}
    (hi : picture[i]? = some row) (hj : row[j]? = some p) :
    cellAt (frontEnd c picture) i j = threshold c (composite p) := by
  simp [cellAt, frontEnd, List.getD_eq_getElem?_getD, hi, hj]

/-- Settles O58: a grid of the picture's shape is accepted where the capacity is unbounded. -/
theorem frontEndGridIsLoadable : Obligations.FrontEndGridIsLoadable := by
  intro c picture w h s rest hh hw hcap hs
  have fits : beyondCap (s.setScript rest).cfg.gridCap (w.toNat * h.toNat) = false := by
    rw [State.setScript_cfg, hcap]; rfl
  exact ⟨_, (step_action hs).trans (hostLoadGrid_of_shape (frontEnd_gridShape c hh hw) fits), rfl, rfl,
    fun i j row p => frontEnd_cell c⟩

end Sys2Proof.Machine
end
